-- ==== Sys2Proof/Word.lean ====
section
/-! DEFINITION. The word types of the decoder: bytes and identifiers. Every value of the block is unsigned (R10). -/

namespace Sys2Proof

/-- A byte of the presented buffer (R60: nothing narrower than a byte is addressed). -/
abbrev Byte := BitVec 8

/-- A 32-bit identifier (R81). -/
abbrev Ident := BitVec 32

end Sys2Proof
end

