-- ==== Sys2Proof/Syntax.lean ====
section
/-! DEFINITION. The enumerations the block decodes to (R36 to R38), the operand records, the formats of
spec/opcode_table.json (R92), and `Instr`, one constructor per row of the table. -/

namespace Sys2Proof

/-- The roles of R36, in the document's order. -/
inductive FunctionCode where
  | nmtMc | syncEmcy | timestamp
  | pdo1Tx | pdo1Rx | pdo2Tx | pdo2Rx | pdo3Tx | pdo3Rx | pdo4Tx | pdo4Rx
  | sdoTx | sdoRx | nmtNodeGuard | unknown
  deriving DecidableEq, Repr, Inhabited

/-- The NMT commands of R37. -/
inductive NmtCommand where
  | start | stop | enterPreOperational | resetApplication | resetCommunication
  deriving DecidableEq, Repr, Inhabited

/-- The SDO command tags of R38. -/
inductive SdoTag where
  | downloadInitiate | downloadSegment | uploadInitiate | uploadSegment | abortTransfer | blockDownload
  deriving DecidableEq, Repr, Inhabited

/-- The SDO direction, taken from the role (R173). -/
inductive Direction where
  | rx | tx
  deriving DecidableEq, Repr, Inhabited

/-- The 8 payload bytes P[0] to P[7] of a frame (R35, R61). -/
structure Payload where
  p0 : Byte
  p1 : Byte
  p2 : Byte
  p3 : Byte
  p4 : Byte
  p5 : Byte
  p6 : Byte
  p7 : Byte
  deriving DecidableEq, Repr, Inhabited

/-- The fields of an SDO payload beside the command specifier: bits 4:0 of byte 0 (R86, R87), index (R176),
sub-index (R177), and payload bytes 4 to 7 (R178, R179). -/
structure SdoOperands where
  low : BitVec 5
  index : BitVec 16
  subIndex : Byte
  d0 : Byte
  d1 : Byte
  d2 : Byte
  d3 : Byte
  deriving DecidableEq, Repr, Inhabited

/-- Where a row of the table is matched: the "format" column of spec/opcode_table.json. The four ID32 rows are
three independent tests (R120), so that format is split into the extended/standard class, the RTR test and
the ERR test; then each format matches at most one row. -/
inductive Format where
  | frameLen | id32Class | id32Rtr | id32Err | id32Std | nmtB0 | sdoB0Rx | sdoB0Tx | abort32
  deriving DecidableEq, Repr, Inhabited

/-- One row of spec/opcode_table.json with the fields of its format that its rule reads (R92). A bit that R93
says is ignored is no operand. -/
inductive Instr where
  /-- PARSE, format FRAME_LEN, R110. -/
  | parse (id : Ident) (dlc : Byte) (payload : Payload)
  /-- INVALID_FRAME_LENGTH, format FRAME_LEN, R110. -/
  | invalidFrameLength (len : Nat)
  /-- IS_EXTENDED, format ID32, R121. -/
  | isExtended (rtr err : Bool) (addr : BitVec 29)
  /-- IS_STANDARD, format ID32, R122. -/
  | isStandard (rtr err : Bool) (addr : BitVec 29)
  /-- IS_REMOTE_REQUEST, format ID32, R123. -/
  | isRemoteRequest (eff err : Bool) (addr : BitVec 29)
  /-- IS_ERROR_FRAME, format ID32, R124. -/
  | isErrorFrame (eff rtr : Bool) (addr : BitVec 29)
  /-- FC_0_NMT_MC, format ID32_STD, R141. -/
  | fc0NmtMc (node : BitVec 7)
  /-- FC_1_SYNC_EMCY, format ID32_STD, R141. -/
  | fc1SyncEmcy (node : BitVec 7)
  /-- FC_2_TIMESTAMP, format ID32_STD, R141. -/
  | fc2Timestamp (node : BitVec 7)
  /-- FC_3_PDO1_TX, format ID32_STD, R141. -/
  | fc3Pdo1Tx (node : BitVec 7)
  /-- FC_4_PDO1_RX, format ID32_STD, R141. -/
  | fc4Pdo1Rx (node : BitVec 7)
  /-- FC_5_PDO2_TX, format ID32_STD, R141. -/
  | fc5Pdo2Tx (node : BitVec 7)
  /-- FC_6_PDO2_RX, format ID32_STD, R141. -/
  | fc6Pdo2Rx (node : BitVec 7)
  /-- FC_7_PDO3_TX, format ID32_STD, R141. -/
  | fc7Pdo3Tx (node : BitVec 7)
  /-- FC_8_PDO3_RX, format ID32_STD, R141. -/
  | fc8Pdo3Rx (node : BitVec 7)
  /-- FC_9_PDO4_TX, format ID32_STD, R141. -/
  | fc9Pdo4Tx (node : BitVec 7)
  /-- FC_A_PDO4_RX, format ID32_STD, R141. -/
  | fcAPdo4Rx (node : BitVec 7)
  /-- FC_B_SDO_TX, format ID32_STD, R141. -/
  | fcBSdoTx (node : BitVec 7)
  /-- FC_C_SDO_RX, format ID32_STD, R141. -/
  | fcCSdoRx (node : BitVec 7)
  /-- FC_D_UNKNOWN, format ID32_STD, R142. -/
  | fcDUnknown (node : BitVec 7)
  /-- FC_E_NMT_NODE_GUARD, format ID32_STD, R141. -/
  | fcENmtNodeGuard (node : BitVec 7)
  /-- FC_F_UNKNOWN, format ID32_STD, R142. -/
  | fcFUnknown (node : BitVec 7)
  /-- NMT_START, format NMT_B0, R160. -/
  | nmtStart (target : Byte)
  /-- NMT_STOP, format NMT_B0, R160. -/
  | nmtStop (target : Byte)
  /-- NMT_ENTER_PRE_OPERATIONAL, format NMT_B0, R160. -/
  | nmtEnterPreOperational (target : Byte)
  /-- NMT_RESET_APPLICATION, format NMT_B0, R160. -/
  | nmtResetApplication (target : Byte)
  /-- NMT_RESET_COMMUNICATION, format NMT_B0, R160. -/
  | nmtResetCommunication (target : Byte)
  /-- NMT_ILLEGAL, format NMT_B0, R95. -/
  | nmtIllegal (command : Byte)
  /-- SDO_RX_DOWNLOAD_SEGMENT, format SDO_B0_RX, R171. -/
  | sdoRxDownloadSegment (o : SdoOperands)
  /-- SDO_RX_DOWNLOAD_INITIATE, format SDO_B0_RX, R171. -/
  | sdoRxDownloadInitiate (o : SdoOperands)
  /-- SDO_RX_UPLOAD_INITIATE, format SDO_B0_RX, R171. -/
  | sdoRxUploadInitiate (o : SdoOperands)
  /-- SDO_RX_UPLOAD_SEGMENT, format SDO_B0_RX, R171. -/
  | sdoRxUploadSegment (o : SdoOperands)
  /-- SDO_RX_ABORT_TRANSFER, format SDO_B0_RX, R171. -/
  | sdoRxAbortTransfer (o : SdoOperands)
  /-- SDO_RX_ILLEGAL_A0, format SDO_B0_RX, R96. -/
  | sdoRxIllegalA0
  /-- SDO_RX_BLOCK_DOWNLOAD, format SDO_B0_RX, R171. -/
  | sdoRxBlockDownload (o : SdoOperands)
  /-- SDO_RX_ILLEGAL_E0, format SDO_B0_RX, R96. -/
  | sdoRxIllegalE0
  /-- SDO_TX_UPLOAD_SEGMENT, format SDO_B0_TX, R171. -/
  | sdoTxUploadSegment (o : SdoOperands)
  /-- SDO_TX_DOWNLOAD_SEGMENT, format SDO_B0_TX, R171. -/
  | sdoTxDownloadSegment (o : SdoOperands)
  /-- SDO_TX_UPLOAD_INITIATE, format SDO_B0_TX, R171. -/
  | sdoTxUploadInitiate (o : SdoOperands)
  /-- SDO_TX_DOWNLOAD_INITIATE, format SDO_B0_TX, R171. -/
  | sdoTxDownloadInitiate (o : SdoOperands)
  /-- SDO_TX_ABORT_TRANSFER, format SDO_B0_TX, R171. -/
  | sdoTxAbortTransfer (o : SdoOperands)
  /-- SDO_TX_BLOCK_DOWNLOAD, format SDO_B0_TX, R171. -/
  | sdoTxBlockDownload (o : SdoOperands)
  /-- SDO_TX_ILLEGAL_C0, format SDO_B0_TX, R96. -/
  | sdoTxIllegalC0
  /-- SDO_TX_ILLEGAL_E0, format SDO_B0_TX, R96. -/
  | sdoTxIllegalE0
  /-- ABORT_05030000, format ABORT32, R182. -/
  | abort05030000
  /-- ABORT_05040000, format ABORT32, R185. -/
  | abort05040000
  /-- ABORT_05040001, format ABORT32, R185. -/
  | abort05040001
  /-- ABORT_05040002, format ABORT32, R185. -/
  | abort05040002
  /-- ABORT_05040003, format ABORT32, R185. -/
  | abort05040003
  /-- ABORT_05040004, format ABORT32, R185. -/
  | abort05040004
  /-- ABORT_05040005, format ABORT32, R185. -/
  | abort05040005
  /-- ABORT_06010000, format ABORT32, R185. -/
  | abort06010000
  /-- ABORT_06010001, format ABORT32, R185. -/
  | abort06010001
  /-- ABORT_06010002, format ABORT32, R185. -/
  | abort06010002
  /-- ABORT_06020000, format ABORT32, R182. -/
  | abort06020000
  /-- ABORT_06040041, format ABORT32, R185. -/
  | abort06040041
  /-- ABORT_06040042, format ABORT32, R185. -/
  | abort06040042
  /-- ABORT_06040043, format ABORT32, R185. -/
  | abort06040043
  /-- ABORT_06040047, format ABORT32, R185. -/
  | abort06040047
  /-- ABORT_06060000, format ABORT32, R185. -/
  | abort06060000
  /-- ABORT_06070010, format ABORT32, R185. -/
  | abort06070010
  /-- ABORT_06070012, format ABORT32, R185. -/
  | abort06070012
  /-- ABORT_06070013, format ABORT32, R185. -/
  | abort06070013
  /-- ABORT_06090011, format ABORT32, R185. -/
  | abort06090011
  /-- ABORT_06090030, format ABORT32, R185. -/
  | abort06090030
  /-- ABORT_06090031, format ABORT32, R185. -/
  | abort06090031
  /-- ABORT_06090032, format ABORT32, R185. -/
  | abort06090032
  /-- ABORT_06090036, format ABORT32, R185. -/
  | abort06090036
  /-- ABORT_060A0023, format ABORT32, R185. -/
  | abort060A0023
  /-- ABORT_08000000, format ABORT32, R185. -/
  | abort08000000
  /-- ABORT_08000020, format ABORT32, R185. -/
  | abort08000020
  /-- ABORT_08000021, format ABORT32, R185. -/
  | abort08000021
  /-- ABORT_08000022, format ABORT32, R185. -/
  | abort08000022
  /-- ABORT_08000023, format ABORT32, R185. -/
  | abort08000023
  /-- ABORT_08000024, format ABORT32, R185. -/
  | abort08000024
  deriving DecidableEq, Repr, Inhabited

end Sys2Proof
end

