-- ==== Sys2Proof/Machine/Ports.lean ====
section
/-! DEFINITION. The ports of the block (R44, R45, R48), and one presentation of inputs with the sampling
condition of R263. -/

namespace Sys2Proof

/-- R44: the input ports. `inLen` is the natural length of the presented buffer (D3); its port is `LEN_W` bits
wide (`InPorts.fits` in Config). Lanes of `inData` at offsets past `inLen` are don't-care values. -/
structure InPorts where
  inValid : Bool
  inLen : Nat
  inData : BitVec 128
  cvTag : BitVec 4
  deriving DecidableEq, Repr, Inhabited

/-- R45: the output ports of the decode path. -/
structure OutPorts where
  outValid : Bool
  status : BitVec 3
  errValue : BitVec 8
  id : BitVec 32
  dlc : BitVec 8
  payload : BitVec 64
  fExt : Bool
  fStd : Bool
  fRtr : Bool
  fErr : Bool
  nodeAddr : BitVec 29
  stdAddr : BitVec 11
  extAddr : BitVec 29
  errBits : BitVec 29
  fcValid : Bool
  fcRaw : BitVec 4
  fcTag : BitVec 4
  role : BitVec 15
  nodeIdValid : Bool
  nodeId : BitVec 7
  subKind : BitVec 3
  nmtCmd : BitVec 3
  nmtTarget : BitVec 8
  sdoCs : BitVec 8
  sdoTag : BitVec 3
  sdoE : Bool
  sdoS : Bool
  sdoCount : BitVec 3
  sdoIndex : BitVec 16
  sdoSubindex : BitVec 8
  sdoDataValid : Bool
  sdoData : BitVec 32
  sdoAbortCode : BitVec 32
  abortHit : Bool
  abortIdx : BitVec 5
  deriving DecidableEq, Repr, Inhabited

/-- R48: the output ports of the reverse-lookup query. -/
structure CvPorts where
  cvValid : Bool
  cvValue : BitVec 4
  deriving DecidableEq, Repr, Inhabited

/-- One presentation: the input values the frame source drives, and whether they are held for at least `T_PD`
before the outputs are sampled (R263), for the decode path and for the query separately. -/
structure Sample where
  ports : InPorts
  dataHeld : Bool
  cvHeld : Bool
  deriving DecidableEq, Repr, Inhabited

/-- R46: every port at 0. -/
def OutPorts.zero : OutPorts where
  outValid := false
  status := 0
  errValue := 0
  id := 0
  dlc := 0
  payload := 0
  fExt := false
  fStd := false
  fRtr := false
  fErr := false
  nodeAddr := 0
  stdAddr := 0
  extAddr := 0
  errBits := 0
  fcValid := false
  fcRaw := 0
  fcTag := 0
  role := 0
  nodeIdValid := false
  nodeId := 0
  subKind := 0
  nmtCmd := 0
  nmtTarget := 0
  sdoCs := 0
  sdoTag := 0
  sdoE := false
  sdoS := false
  sdoCount := 0
  sdoIndex := 0
  sdoSubindex := 0
  sdoDataValid := false
  sdoData := 0
  sdoAbortCode := 0
  abortHit := false
  abortIdx := 0

end Sys2Proof
end

