-- ==== Sys2Proof/Config.lean ====
section
/-! DEFINITION. What a build of the block fixes (R8, R31, R262), the conditions a legal build meets, and the
free values (R263). -/

namespace Sys2Proof

/-- The build-time parameters of R8 that a rule reads: the width of `in_len`, and the two tables. `ABORT_N` is
the length of `abortTable`. -/
structure Build where
  lenW : Nat
  fcMap : List (BitVec 4 × FunctionCode)
  abortTable : List (BitVec 32 × String)
  deriving DecidableEq, Repr, Inhabited

/-- R8: `ABORT_N`, the number of entries of `ABORT_TABLE`. -/
def Build.abortN (b : Build) : Nat := b.abortTable.length

/-- R141: what every function-code table keeps: the three entries the document fixes, at most one role for a
raw value, at most one raw value for a role, and no entry for UNKNOWN. -/
abbrev FcMapOk (m : List (BitVec 4 × FunctionCode)) : Prop :=
  (m.map Prod.fst).Nodup ∧ (m.map Prod.snd).Nodup ∧ FunctionCode.unknown ∉ m.map Prod.snd ∧
    (0x0#4, FunctionCode.nmtMc) ∈ m ∧ (0x1#4, FunctionCode.syncEmcy) ∈ m ∧ (0xC#4, FunctionCode.sdoRx) ∈ m

/-- R182: the first entry the document gives. -/
abbrev toggleBitEntry : BitVec 32 × String := (0x05030000#32, "Toggle bit not alternated")

/-- R182: the second entry the document gives. -/
abbrev noObjectEntry : BitVec 32 × String :=
  (0x06020000#32, "Object does not exist in the Object Dictionary")

/-- R8, R182, R185: what every abort table keeps: codes strictly ascending (so distinct), 2 to 32 entries, and
the two entries the document gives. -/
abbrev AbortTableOk (t : List (BitVec 32 × String)) : Prop :=
  (t.map Prod.fst).Pairwise (· < ·) ∧ 2 ≤ t.length ∧ t.length ≤ 32 ∧ toggleBitEntry ∈ t ∧ noObjectEntry ∈ t

/-- R8, R262: a legal build. -/
abbrev Build.Ok (b : Build) : Prop := 5 ≤ b.lenW ∧ FcMapOk b.fcMap ∧ AbortTableOk b.abortTable

/-- R44: the length of the presented buffer can stand on the `LEN_W`-bit port `in_len`. -/
abbrev InPorts.fits (p : InPorts) (b : Build) : Prop := p.inLen < 2 ^ b.lenW

/-- `T_PD` less one time unit: R8 leaves `T_PD` OPEN, so nothing says what it is (log entry 8). -/
opaque Config.tPdPred : Nat

/-- R8: the propagation delay `T_PD`, a positive time. -/
def Config.tPd : Nat := Config.tPdPred + 1

/-- R263: what the decode-path outputs show when they are sampled before the inputs were held for `T_PD`: any
value, a fresh one each time (log entry 9). -/
opaque Config.unsettledOut : Nat → OutPorts

/-- R263: the same for the query outputs. -/
opaque Config.unsettledCv : Nat → CvPorts

/-- The presentation of inputs `p` of which the decode-path inputs were held for `t` and `cv_tag` for `u` time
units when the outputs are sampled (R263). -/
def Sample.holding (p : InPorts) (t u : Nat) : Sample where
  ports := p
  dataHeld := decide (Config.tPd ≤ t)
  cvHeld := decide (Config.tPd ≤ u)

end Sys2Proof
end

