-- ==== Sys2Proof/Machine/Tables.lean ====
section
/-! DEFINITION. The lookup tables (R31): the port codes of the enumerations (R36 to R38, R40), the NMT table (R160), the SDO tables
(R171), the defaults of `FC_MAP` (R141) and `ABORT_TABLE` (R185), and the lookups in them. -/

namespace Sys2Proof

/-- R36: the tag of a role on `fc_tag`. -/
def FunctionCode.tag : FunctionCode → BitVec 4
  | .nmtMc => 0
  | .syncEmcy => 1
  | .timestamp => 2
  | .pdo1Tx => 3
  | .pdo1Rx => 4
  | .pdo2Tx => 5
  | .pdo2Rx => 6
  | .pdo3Tx => 7
  | .pdo3Rx => 8
  | .pdo4Tx => 9
  | .pdo4Rx => 10
  | .sdoTx => 11
  | .sdoRx => 12
  | .nmtNodeGuard => 13
  | .unknown => 14

/-- R37: the code of a command on `nmt_cmd`. -/
def NmtCommand.code : NmtCommand → BitVec 3
  | .start => 0
  | .stop => 1
  | .enterPreOperational => 2
  | .resetApplication => 3
  | .resetCommunication => 4

/-- R38: the code of a tag on `sdo_tag`. -/
def SdoTag.code : SdoTag → BitVec 3
  | .downloadInitiate => 0
  | .downloadSegment => 1
  | .uploadInitiate => 2
  | .uploadSegment => 3
  | .abortTransfer => 4
  | .blockDownload => 5

/-- R174, R175: the two initiate tags. -/
def SdoTag.isInitiate : SdoTag → Bool
  | .downloadInitiate | .uploadInitiate => true
  | .downloadSegment | .uploadSegment | .abortTransfer | .blockDownload => false

/-- The partner of `key` in a table, the first one listed. -/
def tableFind {α β : Type} [DecidableEq α] (t : List (α × β)) (key : α) : Option β :=
  (t.find? fun e => decide (e.1 = key)).map Prod.snd

/-- R160: the NMT command table. -/
def nmtTable : List (Byte × NmtCommand) :=
  [(0x01, .start), (0x02, .stop), (0x80, .enterPreOperational), (0x81, .resetApplication),
   (0x82, .resetCommunication)]

/-- R171: the SDO command table of each direction, by the masked command specifier. -/
def sdoTable : Direction → List (Byte × SdoTag)
  | .rx => [(0x00, .downloadSegment), (0x20, .downloadInitiate), (0x40, .uploadInitiate), (0x60, .uploadSegment),
      (0x80, .abortTransfer), (0xC0, .blockDownload)]
  | .tx => [(0x00, .uploadSegment), (0x20, .downloadSegment), (0x40, .uploadInitiate), (0x60, .downloadInitiate),
      (0x80, .abortTransfer), (0xA0, .blockDownload)]

/-- R141: the default `FC_MAP`. Entries 0x0, 0x1 and 0xC are the document's; the others are the default of a
parameter (log entry 3). -/
def fcMapDefault : List (BitVec 4 × FunctionCode) :=
  [(0x0, .nmtMc), (0x1, .syncEmcy), (0x2, .timestamp), (0x3, .pdo1Tx), (0x4, .pdo1Rx), (0x5, .pdo2Tx),
   (0x6, .pdo2Rx), (0x7, .pdo3Tx), (0x8, .pdo3Rx), (0x9, .pdo4Tx), (0xA, .pdo4Rx), (0xB, .sdoTx),
   (0xC, .sdoRx), (0xE, .nmtNodeGuard)]

/-- R185: entries 0 to 10 of the default `ABORT_TABLE`. Entries 0 and 10 are the document's (R182); the others are the default of a parameter (log entry 4). -/
def abortTableDefaultA : List (BitVec 32 × String) :=
    [(0x05030000#32, "Toggle bit not alternated"),
     (0x05040000#32, "SDO protocol timed out"),
     (0x05040001#32, "Client/server command specifier not valid or unknown"),
     (0x05040002#32, "Invalid block size (block mode only)"),
     (0x05040003#32, "Invalid sequence number (block mode only)"),
     (0x05040004#32, "CRC error (block mode only)"),
     (0x05040005#32, "Out of memory"),
     (0x06010000#32, "Unsupported access to an object"),
     (0x06010001#32, "Attempt to read a write only object"),
     (0x06010002#32, "Attempt to write a read only object"),
     (0x06020000#32, "Object does not exist in the Object Dictionary")]

/-- R185: entries 11 to 20 of the default `ABORT_TABLE` (log entry 4). -/
def abortTableDefaultB : List (BitVec 32 × String) :=
    [(0x06040041#32, "Object cannot be mapped to the PDO"),
     (0x06040042#32, "The number and length of the objects to be mapped would exceed PDO length"),
     (0x06040043#32, "General parameter incompatibility reason"),
     (0x06040047#32, "General internal incompatibility in the device"),
     (0x06060000#32, "Access failed due to an hardware error"),
     (0x06070010#32, "Data type does not match, length of service parameter does not match"),
     (0x06070012#32, "Data type does not match, length of service parameter too high"),
     (0x06070013#32, "Data type does not match, length of service parameter too low"),
     (0x06090011#32, "Sub-index does not exist"),
     (0x06090030#32, "Invalid value for parameter (download only)")]

/-- R185: entries 21 to 30 of the default `ABORT_TABLE` (log entry 4). -/
def abortTableDefaultC : List (BitVec 32 × String) :=
    [(0x06090031#32, "Value of parameter written too high (download only)"),
     (0x06090032#32, "Value of parameter written too low (download only)"),
     (0x06090036#32, "Maximum value is less than minimum value"),
     (0x060A0023#32, "Resource not available: SDO connection"),
     (0x08000000#32, "General error"),
     (0x08000020#32, "Data cannot be transferred or stored to the application"),
     (0x08000021#32, "Data cannot be transferred or stored to the application because of local control"),
     (0x08000022#32, "Data cannot be transferred or stored to the application because of the present device state"),
     (0x08000023#32, "Object dictionary dynamic generation fails or no object dictionary is present"),
     (0x08000024#32, "No data available")]

/-- R185: the default `ABORT_TABLE`, 31 entries. -/
def abortTableDefault : List (BitVec 32 × String) :=
  abortTableDefaultA ++ abortTableDefaultB ++ abortTableDefaultC

/-- R8: the build with every parameter at its default. -/
def Build.default : Build where
  lenW := 16
  fcMap := fcMapDefault
  abortTable := abortTableDefault

/-- R142: `RESOLVE`. A raw value with no entry resolves to UNKNOWN and is never an error (R233). -/
def resolve (m : List (BitVec 4 × FunctionCode)) (raw : BitVec 4) : FunctionCode :=
  (tableFind m raw).getD .unknown

/-- R145: `CODE_VALUE`, the table read in reverse, by the tag on `cv_tag`. -/
def codeValue (m : List (BitVec 4 × FunctionCode)) (tag : BitVec 4) : Option (BitVec 4) :=
  tableFind (m.map fun e => (e.2.tag, e.1)) tag

/-- R172: the tag of a command specifier in a direction, if its table has one. -/
def sdoTagOf (dir : Direction) (cs : Byte) : Option SdoTag := tableFind (sdoTable dir) cs

/-- R181: `ABORT_LOOKUP`, on all 32 bits. A miss is no error. -/
def abortLookup (t : List (BitVec 32 × String)) (code : BitVec 32) : Option Nat :=
  t.findIdx? fun e => decide (e.1 = code)

/-- R181: the diagnostic text of an entry, table data that no port carries. -/
def abortMessage (t : List (BitVec 32 × String)) (i : Nat) : Option String := t[i]?.map Prod.snd

end Sys2Proof
end

