-- ==== Sys2Proof/Machine/Values.lean ====
section
/-! DEFINITION. The abstract values the block computes (R35, R39 to R42), in the document's own structure. -/

namespace Sys2Proof

/-- R35: the decoded fixed fields of the 16-byte buffer; the padding bytes are not part of it. -/
structure RawFrame where
  identifier : Ident
  declaredLength : Byte
  payload : Payload
  deriving DecidableEq, Repr, Inhabited

/-- R39: the fields of an SDO sub-frame. `abortEntry` is an index into `ABORT_TABLE`. -/
structure SdoFields where
  commandSpecifier : Byte
  tag : SdoTag
  expedited : Bool
  sizeIndicated : Bool
  expeditedByteCount : Byte
  index : BitVec 16
  subIndex : Byte
  expeditedData : Option (List Byte)
  abortCode : BitVec 32
  abortEntry : Option Nat
  deriving DecidableEq, Repr, Inhabited

/-- R40: the five sub-frame variants. -/
inductive SubFrame where
  | unknown (payload : Payload)
  | nmtMasterControl (command : NmtCommand) (targetNode : Byte)
  | sdoRx (fields : SdoFields)
  | sdoTx (fields : SdoFields)
  | pdoOpaque (payload : Payload)
  deriving DecidableEq, Repr, Inhabited

/-- R41: the decoded frame. -/
structure CanOpenFrame where
  raw : RawFrame
  functionCode : Option FunctionCode
  nodeId : Option (BitVec 7)
  subFrame : SubFrame
  deriving DecidableEq, Repr, Inhabited

/-- R42: the error kinds. `unknownFunctionCode` is never raised by this block (R233). -/
inductive DecodeError where
  | invalidFrameLength
  | unknownFunctionCode (raw : BitVec 4)
  | unknownNmtCommand (raw : Byte)
  | unknownSdoCommand (raw : Byte)
  deriving DecidableEq, Repr, Inhabited

end Sys2Proof
end

