-- ==== Sys2Proof/Machine/Operands.lean ====
section
/-! DEFINITION. Reading fields: the buffer and payload reads of R11, the constants of R82, the identifier fields of
R88 and R125 to R128, and the SDO fields of R89, R90, R170 and R175 to R179. Everything is unsigned (R10). -/

namespace Sys2Proof

/-- R10, R63: the little-endian value of a list of bytes, as a number of `w` bits. -/
def leAssemble (w : Nat) : List Byte → BitVec w
  | [] => 0
  | b :: bs => b.setWidth w ||| (leAssemble w bs <<< 8)

/-- The bytes of a word of `8 * n` bits, least significant first (R63). -/
def leBytes (n : Nat) (v : BitVec (8 * n)) : List Byte :=
  (List.range n).map fun k => v.extractLsb' (8 * k) 8

/-- R11: `MemRead(a, n)`, `n` bytes of the buffer from offset `a`. -/
def memRead (buf : List Byte) (a n : Nat) : BitVec (8 * n) := leAssemble (8 * n) ((buf.drop a).take n)

/-- The payload as a list, in offset order. -/
def Payload.bytes (p : Payload) : List Byte := [p.p0, p.p1, p.p2, p.p3, p.p4, p.p5, p.p6, p.p7]

/-- R11: `PRead(a, n)`, the same over the payload bytes. -/
def pRead (p : Payload) (a n : Nat) : BitVec (8 * n) := memRead p.bytes a n

/-- R44, R65: buffer byte `k` on `in_data[8k+7:8k]`. -/
def laneOf (d : BitVec 128) (k : Nat) : Byte := d.extractLsb' (8 * k) 8

/-- The 16 lanes of `in_data`, in offset order. -/
def lanes (d : BitVec 128) : List Byte := (List.range 16).map (laneOf d)

/-- R45: payload byte `k` on `payload[8k+7:8k]`. -/
def Payload.port (p : Payload) : BitVec 64 := leAssemble 64 p.bytes

/-- The payload bytes that the `payload` wires carry. -/
def Payload.ofPort (v : BitVec 64) : Payload where
  p0 := v.extractLsb' 0 8
  p1 := v.extractLsb' 8 8
  p2 := v.extractLsb' 16 8
  p3 := v.extractLsb' 24 8
  p4 := v.extractLsb' 32 8
  p5 := v.extractLsb' 40 8
  p6 := v.extractLsb' 48 8
  p7 := v.extractLsb' 56 8

/-- R82: the identifier constants. -/
def effFlag : Ident := 0x80000000
def rtrFlag : Ident := 0x40000000
def errFlag : Ident := 0x20000000
def stdMask : Ident := 0x000007FF
def extMask : Ident := 0x1FFFFFFF
def errMask : Ident := 0x1FFFFFFF
def fcMask : Ident := 0x00000780
def fcShift : Nat := 7
def nodeMask : Ident := 0x0000007F
/-- R82: the mask of the command specifier in SDO byte 0. -/
def csMask : Byte := 0xE0

/-- R140: `FC_RAW`. -/
def fcRaw (id : Ident) : BitVec 4 := ((id &&& fcMask) >>> fcShift).setWidth 4

/-- R144: `CANOPEN_NODE_ID`. -/
def canopenNodeId (id : Ident) : BitVec 7 := (id &&& nodeMask).setWidth 7

/-- R126: `STD_ADDRESS`. -/
def stdAddress (id : Ident) : BitVec 11 := (id &&& stdMask).setWidth 11

/-- R127: `EXT_ADDRESS`. -/
def extAddress (id : Ident) : BitVec 29 := (id &&& extMask).setWidth 29

/-- R128: `ERR_BITS`, given no further meaning. -/
def errBits (id : Ident) : BitVec 29 := (id &&& errMask).setWidth 29

/-- R170: `SDO_CS`, kept unshifted. -/
def sdoCs (b0 : Byte) : Byte := b0 &&& csMask

/-- R86: the unused-byte count `n`, bits 3:2 of byte 0. -/
def sdoN (b0 : Byte) : BitVec 2 := b0.extractLsb' 2 2

/-- R90, R175: `SDO_COUNT`, 4 - n for an initiate tag and 0 for every other. -/
def sdoCount (tag : SdoTag) (b0 : Byte) : Byte := if tag.isInitiate then 4 - (sdoN b0).setWidth 8 else 0

/-- R176: `SDO_INDEX`. -/
def sdoIndex (p : Payload) : BitVec 16 := pRead p 1 2

/-- R177: `SDO_SUBINDEX`. -/
def sdoSubIndex (p : Payload) : Byte := p.p3

/-- R179: `SDO_ABORT_CODE`. -/
def sdoAbortCode (p : Payload) : BitVec 32 := pRead p 4 4

end Sys2Proof
end

