-- ==== Sys2Proof/Machine/Flags.lean ====
section
/-! DEFINITION. The boolean outputs (R49): the identifier flag tests (R120 to R125), the SDO flags (R174), the
expedited data with its valid bit (R178), and the role bits (R45, R205). -/

namespace Sys2Proof

/-- R120: a flag is set when the identifier ANDed with the flag constant equals the constant. -/
def flagSet (id flag : Ident) : Bool := decide (id &&& flag = flag)

/-- R121. -/
def isExtended (id : Ident) : Bool := flagSet id effFlag

/-- R122. -/
def isStandard (id : Ident) : Bool := !isExtended id

/-- R123. -/
def isRemoteRequest (id : Ident) : Bool := flagSet id rtrFlag

/-- R124. -/
def isErrorFrame (id : Ident) : Bool := flagSet id errFlag

/-- R125: `NODE_ADDRESS`, the generic address; not the CANopen node id (R131). -/
def nodeAddress (id : Ident) : BitVec 29 := if isExtended id then extAddress id else (stdAddress id).setWidth 29

/-- R174: `SDO_FLAGS`, (expedited, size indicated), for initiate tags only. -/
def sdoFlags (tag : SdoTag) (b0 : Byte) : Bool × Bool :=
  if tag.isInitiate then (b0.getLsbD 1, b0.getLsbD 0) else (false, false)

/-- R178: `SDO_DATA`, exactly the counted bytes, only when expedited; `data` is P[4] to P[7]. -/
def sdoData (tag : SdoTag) (b0 : Byte) (data : List Byte) : Option (List Byte) :=
  if (sdoFlags tag b0).1 then some (data.take (sdoCount tag b0).toNat) else none

/-- R178: the lanes of `sdo_data`: byte k on bits 8k+7:8k, every lane past the data at 0. -/
def sdoDataPort (data : Option (List Byte)) : BitVec 32 := leAssemble 32 (data.getD [])

/-- R45: `role[t]` = 1 iff there is a function code with tag t. -/
def roleBits (fc : Option FunctionCode) : BitVec 15 :=
  match fc with
  | some c => 1#15 <<< c.tag.toNat
  | none => 0

end Sys2Proof
end

