-- ==== Sys2Proof/WellFormed.lean ====
section
/-! DEFINITION. Well-formed instructions: the two rows whose match is a condition and not a pattern of fixed bits
(INVALID_FRAME_LENGTH, NMT_ILLEGAL) carry the value the condition is about; it must meet the condition. -/

namespace Sys2Proof

/-- R110: a length that is no frame's. -/
def badLength (len : Nat) : Bool := len != 16

/-- R95: a byte outside the NMT command table. -/
def badNmtCommand (c : Byte) : Bool := c != 0x01 && c != 0x02 && c != 0x80 && c != 0x81 && c != 0x82

/-- The row's match holds of its operands. -/
def Instr.wf : Instr → Bool
  | .parse _ _ _ => true
  | .invalidFrameLength len => badLength len
  | .isExtended _ _ _ => true
  | .isStandard _ _ _ => true
  | .isRemoteRequest _ _ _ => true
  | .isErrorFrame _ _ _ => true
  | .fc0NmtMc _ => true
  | .fc1SyncEmcy _ => true
  | .fc2Timestamp _ => true
  | .fc3Pdo1Tx _ => true
  | .fc4Pdo1Rx _ => true
  | .fc5Pdo2Tx _ => true
  | .fc6Pdo2Rx _ => true
  | .fc7Pdo3Tx _ => true
  | .fc8Pdo3Rx _ => true
  | .fc9Pdo4Tx _ => true
  | .fcAPdo4Rx _ => true
  | .fcBSdoTx _ => true
  | .fcCSdoRx _ => true
  | .fcDUnknown _ => true
  | .fcENmtNodeGuard _ => true
  | .fcFUnknown _ => true
  | .nmtStart _ => true
  | .nmtStop _ => true
  | .nmtEnterPreOperational _ => true
  | .nmtResetApplication _ => true
  | .nmtResetCommunication _ => true
  | .nmtIllegal command => badNmtCommand command
  | .sdoRxDownloadSegment _ => true
  | .sdoRxDownloadInitiate _ => true
  | .sdoRxUploadInitiate _ => true
  | .sdoRxUploadSegment _ => true
  | .sdoRxAbortTransfer _ => true
  | .sdoRxIllegalA0 => true
  | .sdoRxBlockDownload _ => true
  | .sdoRxIllegalE0 => true
  | .sdoTxUploadSegment _ => true
  | .sdoTxDownloadSegment _ => true
  | .sdoTxUploadInitiate _ => true
  | .sdoTxDownloadInitiate _ => true
  | .sdoTxAbortTransfer _ => true
  | .sdoTxBlockDownload _ => true
  | .sdoTxIllegalC0 => true
  | .sdoTxIllegalE0 => true
  | .abort05030000 => true
  | .abort05040000 => true
  | .abort05040001 => true
  | .abort05040002 => true
  | .abort05040003 => true
  | .abort05040004 => true
  | .abort05040005 => true
  | .abort06010000 => true
  | .abort06010001 => true
  | .abort06010002 => true
  | .abort06020000 => true
  | .abort06040041 => true
  | .abort06040042 => true
  | .abort06040043 => true
  | .abort06040047 => true
  | .abort06060000 => true
  | .abort06070010 => true
  | .abort06070012 => true
  | .abort06070013 => true
  | .abort06090011 => true
  | .abort06090030 => true
  | .abort06090031 => true
  | .abort06090032 => true
  | .abort06090036 => true
  | .abort060A0023 => true
  | .abort08000000 => true
  | .abort08000020 => true
  | .abort08000021 => true
  | .abort08000022 => true
  | .abort08000023 => true
  | .abort08000024 => true

end Sys2Proof
end

