-- ==== Sys2Proof/Decode.lean ====
section
/-! DEFINITION. The decoder: which row of spec/opcode_table.json the bytes of a field match (R91, R92), total on any bytes and
rejecting by name; the rows a whole frame matches, in the order of the decode map; and the encoder, each row's
field written from the formats of R80 to R87. -/

namespace Sys2Proof

/-- Why the bytes of a field give no row: the field has not the length of its format, or no row of the format
matches (a flag test of a clear flag, an extended identifier in ID32_STD, an abort code outside the table). -/
inductive DecodeReject where
  | fieldLength (got : Nat)
  | noRow (f : Format)
  deriving DecidableEq, Repr

/-- ID32_STD: the rows by raw function code (R83, R141, R142). -/
def fcRows : List (BitVec 4 × (BitVec 7 → Instr)) :=
    [(0x0, .fc0NmtMc),
     (0x1, .fc1SyncEmcy),
     (0x2, .fc2Timestamp),
     (0x3, .fc3Pdo1Tx),
     (0x4, .fc4Pdo1Rx),
     (0x5, .fc5Pdo2Tx),
     (0x6, .fc6Pdo2Rx),
     (0x7, .fc7Pdo3Tx),
     (0x8, .fc8Pdo3Rx),
     (0x9, .fc9Pdo4Tx),
     (0xA, .fcAPdo4Rx),
     (0xB, .fcBSdoTx),
     (0xC, .fcCSdoRx),
     (0xD, .fcDUnknown),
     (0xE, .fcENmtNodeGuard),
     (0xF, .fcFUnknown)]

/-- NMT_B0: the rows by command byte (R85, R160). -/
def nmtRows : List (Byte × (Byte → Instr)) :=
    [(0x01, .nmtStart),
     (0x02, .nmtStop),
     (0x80, .nmtEnterPreOperational),
     (0x81, .nmtResetApplication),
     (0x82, .nmtResetCommunication)]

/-- SDO_B0_RX: the rows by masked command specifier (R171, R96). -/
def sdoRxRows : List (Byte × (SdoOperands → Instr)) :=
    [(0x00, .sdoRxDownloadSegment),
     (0x20, .sdoRxDownloadInitiate),
     (0x40, .sdoRxUploadInitiate),
     (0x60, .sdoRxUploadSegment),
     (0x80, .sdoRxAbortTransfer),
     (0xA0, fun _ => .sdoRxIllegalA0),
     (0xC0, .sdoRxBlockDownload),
     (0xE0, fun _ => .sdoRxIllegalE0)]

/-- SDO_B0_TX: the rows by masked command specifier (R171, R96). -/
def sdoTxRows : List (Byte × (SdoOperands → Instr)) :=
    [(0x00, .sdoTxUploadSegment),
     (0x20, .sdoTxDownloadSegment),
     (0x40, .sdoTxUploadInitiate),
     (0x60, .sdoTxDownloadInitiate),
     (0x80, .sdoTxAbortTransfer),
     (0xA0, .sdoTxBlockDownload),
     (0xC0, fun _ => .sdoTxIllegalC0),
     (0xE0, fun _ => .sdoTxIllegalE0)]

/-- ABORT32: the rows by code, in pieces (R185). -/
def abortRowsA : List (BitVec 32 × Instr) :=
    [(0x05030000#32, .abort05030000),
     (0x05040000#32, .abort05040000),
     (0x05040001#32, .abort05040001),
     (0x05040002#32, .abort05040002),
     (0x05040003#32, .abort05040003),
     (0x05040004#32, .abort05040004),
     (0x05040005#32, .abort05040005),
     (0x06010000#32, .abort06010000),
     (0x06010001#32, .abort06010001),
     (0x06010002#32, .abort06010002),
     (0x06020000#32, .abort06020000)]

def abortRowsB : List (BitVec 32 × Instr) :=
    [(0x06040041#32, .abort06040041),
     (0x06040042#32, .abort06040042),
     (0x06040043#32, .abort06040043),
     (0x06040047#32, .abort06040047),
     (0x06060000#32, .abort06060000),
     (0x06070010#32, .abort06070010),
     (0x06070012#32, .abort06070012),
     (0x06070013#32, .abort06070013),
     (0x06090011#32, .abort06090011),
     (0x06090030#32, .abort06090030)]

def abortRowsC : List (BitVec 32 × Instr) :=
    [(0x06090031#32, .abort06090031),
     (0x06090032#32, .abort06090032),
     (0x06090036#32, .abort06090036),
     (0x060A0023#32, .abort060A0023),
     (0x08000000#32, .abort08000000),
     (0x08000020#32, .abort08000020),
     (0x08000021#32, .abort08000021),
     (0x08000022#32, .abort08000022),
     (0x08000023#32, .abort08000023),
     (0x08000024#32, .abort08000024)]

/-- ABORT32: all 31 rows. -/
def abortRows : List (BitVec 32 × Instr) := abortRowsA ++ abortRowsB ++ abortRowsC

/-- Bits 28:0 of an identifier (R81). -/
def addr29 (id : Ident) : BitVec 29 := id.extractLsb' 0 29

/-- The 4 bytes of an ID32 or ABORT32 field as a number (R63). -/
def word32Of (bytes : List Byte) (f : BitVec 32 → Except DecodeReject Instr) : Except DecodeReject Instr :=
  match bytes with
  | [b0, b1, b2, b3] => f (leAssemble 32 [b0, b1, b2, b3])
  | _ => .error (.fieldLength bytes.length)

/-- The operands of an SDO payload (R62, R86, R87). -/
def SdoOperands.ofPayload (p : Payload) : SdoOperands where
  low := p.p0.extractLsb' 0 5
  index := sdoIndex p
  subIndex := p.p3
  d0 := p.p4
  d1 := p.p5
  d2 := p.p6
  d3 := p.p7

/-- The 8 bytes of an SDO payload. -/
def payloadOf (bytes : List Byte) (f : Payload → Except DecodeReject Instr) : Except DecodeReject Instr :=
  match bytes with
  | [b0, b1, b2, b3, b4, b5, b6, b7] => f ⟨b0, b1, b2, b3, b4, b5, b6, b7⟩
  | _ => .error (.fieldLength bytes.length)

/-- The row found in a format, or the rejection by name. -/
def rowOr (f : Format) : Option Instr → Except DecodeReject Instr
  | some i => .ok i
  | none => .error (.noRow f)

/-- FRAME_LEN (R110): a 16-byte buffer is a PARSE, any other an INVALID_FRAME_LENGTH; bytes 5 to 7 are not read (R113). -/
def decodeFrameLen (bytes : List Byte) : Instr :=
  match bytes with
  | [b0, b1, b2, b3, b4, _, _, _, p0, p1, p2, p3, p4, p5, p6, p7] =>
    .parse (leAssemble 32 [b0, b1, b2, b3]) b4 ⟨p0, p1, p2, p3, p4, p5, p6, p7⟩
  | _ => .invalidFrameLength bytes.length

/-- ID32, the class (R121, R122). -/
def decodeClass (id : Ident) : Instr :=
  if isExtended id then .isExtended (isRemoteRequest id) (isErrorFrame id) (addr29 id)
  else .isStandard (isRemoteRequest id) (isErrorFrame id) (addr29 id)

/-- NMT_B0 (R160, R95). -/
def decodeNmt (command target : Byte) : Instr :=
  match tableFind nmtRows command with
  | some row => row target
  | none => .nmtIllegal command

/-- The row that the bytes of a field match in a format. -/
def decode (f : Format) (bytes : List Byte) : Except DecodeReject Instr :=
  match f with
  | .frameLen => .ok (decodeFrameLen bytes)
  | .id32Class => word32Of bytes fun id => .ok (decodeClass id)
  | .id32Rtr => word32Of bytes fun id =>
    if isRemoteRequest id then .ok (.isRemoteRequest (isExtended id) (isErrorFrame id) (addr29 id))
    else .error (.noRow .id32Rtr)
  | .id32Err => word32Of bytes fun id =>
    if isErrorFrame id then .ok (.isErrorFrame (isExtended id) (isRemoteRequest id) (addr29 id))
    else .error (.noRow .id32Err)
  | .id32Std => word32Of bytes fun id =>
    if isStandard id then rowOr .id32Std ((tableFind fcRows (fcRaw id)).map fun row => row (canopenNodeId id))
    else .error (.noRow .id32Std)
  | .nmtB0 =>
    match bytes with
    | [b0, b1] => .ok (decodeNmt b0 b1)
    | _ => .error (.fieldLength bytes.length)
  | .sdoB0Rx => payloadOf bytes fun p =>
    rowOr .sdoB0Rx ((tableFind sdoRxRows (sdoCs p.p0)).map fun row => row (SdoOperands.ofPayload p))
  | .sdoB0Tx => payloadOf bytes fun p =>
    rowOr .sdoB0Tx ((tableFind sdoTxRows (sdoCs p.p0)).map fun row => row (SdoOperands.ofPayload p))
  | .abort32 => word32Of bytes fun code => rowOr .abort32 (tableFind abortRows code)

/-- The row of a field as a list: none where the decoder rejects. -/
def rowOf (f : Format) (bytes : List Byte) : List Instr :=
  match decode f bytes with
  | .ok i => [i]
  | .error _ => []

/-- The format of the SDO command rows in a direction. -/
def Direction.format : Direction → Format
  | .rx => .sdoB0Rx
  | .tx => .sdoB0Tx

/-- The SDO rows of a payload in a direction (R183): the command row, and for an ABORT_TRANSFER the row of the abort
code, where the code has one (R180). -/
def sdoRows (dir : Direction) (payload : List Byte) : List Instr :=
  rowOf dir.format payload ++
    if (payload.head?.bind fun b0 => sdoTagOf dir (sdoCs b0)) = some .abortTransfer
    then rowOf .abort32 (payload.drop 4) else []

/-- The payload rows of a role (R91 step 5, R203): only three roles carry structure. -/
def payloadRows (role : FunctionCode) (payload : List Byte) : List Instr :=
  match role with
  | .nmtMc => rowOf .nmtB0 (payload.take 2)
  | .sdoRx => sdoRows .rx payload
  | .sdoTx => sdoRows .tx payload
  | .pdo1Tx | .pdo1Rx | .pdo2Tx | .pdo2Rx | .pdo3Tx | .pdo3Rx | .pdo4Tx | .pdo4Rx => []
  | .syncEmcy | .timestamp | .nmtNodeGuard | .unknown => []

/-- The rows a buffer matches, in the order of the decode map R91. `len` is the buffer's length and `buf` its first 16
bytes (R44). The RTR and ERR rows take no part in the choice of the others (R204). -/
def decodeRows (b : Build) (len : Nat) (buf : List Byte) : List Instr :=
  if len ≠ 16 then [.invalidFrameLength len]
  else
    let idBytes := buf.take 4
    let id := leAssemble 32 idBytes
    rowOf .frameLen buf ++ rowOf .id32Class idBytes ++ rowOf .id32Rtr idBytes ++ rowOf .id32Err idBytes ++
      if isStandard id then
        rowOf .id32Std idBytes ++ payloadRows (resolve b.fcMap (fcRaw id)) ((buf.drop 8).take 8)
      else []

/-! ### The encoder -/

/-- The format of a row. -/
def Instr.format : Instr → Format
  | .parse _ _ _ => .frameLen
  | .invalidFrameLength _ => .frameLen
  | .isExtended _ _ _ => .id32Class
  | .isStandard _ _ _ => .id32Class
  | .isRemoteRequest _ _ _ => .id32Rtr
  | .isErrorFrame _ _ _ => .id32Err
  | .fc0NmtMc _ => .id32Std
  | .fc1SyncEmcy _ => .id32Std
  | .fc2Timestamp _ => .id32Std
  | .fc3Pdo1Tx _ => .id32Std
  | .fc4Pdo1Rx _ => .id32Std
  | .fc5Pdo2Tx _ => .id32Std
  | .fc6Pdo2Rx _ => .id32Std
  | .fc7Pdo3Tx _ => .id32Std
  | .fc8Pdo3Rx _ => .id32Std
  | .fc9Pdo4Tx _ => .id32Std
  | .fcAPdo4Rx _ => .id32Std
  | .fcBSdoTx _ => .id32Std
  | .fcCSdoRx _ => .id32Std
  | .fcDUnknown _ => .id32Std
  | .fcENmtNodeGuard _ => .id32Std
  | .fcFUnknown _ => .id32Std
  | .nmtStart _ => .nmtB0
  | .nmtStop _ => .nmtB0
  | .nmtEnterPreOperational _ => .nmtB0
  | .nmtResetApplication _ => .nmtB0
  | .nmtResetCommunication _ => .nmtB0
  | .nmtIllegal _ => .nmtB0
  | .sdoRxDownloadSegment _ => .sdoB0Rx
  | .sdoRxDownloadInitiate _ => .sdoB0Rx
  | .sdoRxUploadInitiate _ => .sdoB0Rx
  | .sdoRxUploadSegment _ => .sdoB0Rx
  | .sdoRxAbortTransfer _ => .sdoB0Rx
  | .sdoRxIllegalA0 => .sdoB0Rx
  | .sdoRxBlockDownload _ => .sdoB0Rx
  | .sdoRxIllegalE0 => .sdoB0Rx
  | .sdoTxUploadSegment _ => .sdoB0Tx
  | .sdoTxDownloadSegment _ => .sdoB0Tx
  | .sdoTxUploadInitiate _ => .sdoB0Tx
  | .sdoTxDownloadInitiate _ => .sdoB0Tx
  | .sdoTxAbortTransfer _ => .sdoB0Tx
  | .sdoTxBlockDownload _ => .sdoB0Tx
  | .sdoTxIllegalC0 => .sdoB0Tx
  | .sdoTxIllegalE0 => .sdoB0Tx
  | .abort05030000 => .abort32
  | .abort05040000 => .abort32
  | .abort05040001 => .abort32
  | .abort05040002 => .abort32
  | .abort05040003 => .abort32
  | .abort05040004 => .abort32
  | .abort05040005 => .abort32
  | .abort06010000 => .abort32
  | .abort06010001 => .abort32
  | .abort06010002 => .abort32
  | .abort06020000 => .abort32
  | .abort06040041 => .abort32
  | .abort06040042 => .abort32
  | .abort06040043 => .abort32
  | .abort06040047 => .abort32
  | .abort06060000 => .abort32
  | .abort06070010 => .abort32
  | .abort06070012 => .abort32
  | .abort06070013 => .abort32
  | .abort06090011 => .abort32
  | .abort06090030 => .abort32
  | .abort06090031 => .abort32
  | .abort06090032 => .abort32
  | .abort06090036 => .abort32
  | .abort060A0023 => .abort32
  | .abort08000000 => .abort32
  | .abort08000020 => .abort32
  | .abort08000021 => .abort32
  | .abort08000022 => .abort32
  | .abort08000023 => .abort32
  | .abort08000024 => .abort32

/-- ID32 (R81): the three flags above the 29 address bits. -/
def idWord (eff rtr err : Bool) (addr : BitVec 29) : Ident :=
  BitVec.ofBool eff ++ BitVec.ofBool rtr ++ BitVec.ofBool err ++ addr

/-- ID32_STD (R83): function code and node id; bits 30:11, which these rows do not read, at 0 (log entry 11). -/
def fcWord (raw : BitVec 4) (node : BitVec 7) : Ident := 0#21 ++ raw ++ node

/-- SDO_PAYLOAD (R86, R87, R89): byte 0 is the command specifier over bits 4:0. -/
def sdoBytes (cs : Byte) (o : SdoOperands) : List Byte :=
  [cs ||| o.low.setWidth 8, o.index.extractLsb' 0 8, o.index.extractLsb' 8 8, o.subIndex, o.d0, o.d1, o.d2, o.d3]

/-- SDO operands of an illegal command: no other bit of it is read. -/
def SdoOperands.zero : SdoOperands := ⟨0, 0, 0, 0, 0, 0, 0⟩

/-- The bytes of a row's field; bits the row does not read are 0 (log entry 11). -/
def encode : Instr → List Byte
  | .parse id dlc payload => leBytes 4 id ++ [dlc, 0, 0, 0] ++ payload.bytes
  | .invalidFrameLength len => List.replicate len 0
  | .isExtended rtr err addr => leBytes 4 (idWord true rtr err addr)
  | .isStandard rtr err addr => leBytes 4 (idWord false rtr err addr)
  | .isRemoteRequest eff err addr => leBytes 4 (idWord eff true err addr)
  | .isErrorFrame eff rtr addr => leBytes 4 (idWord eff rtr true addr)
  | .fc0NmtMc node => leBytes 4 (fcWord 0x0 node)
  | .fc1SyncEmcy node => leBytes 4 (fcWord 0x1 node)
  | .fc2Timestamp node => leBytes 4 (fcWord 0x2 node)
  | .fc3Pdo1Tx node => leBytes 4 (fcWord 0x3 node)
  | .fc4Pdo1Rx node => leBytes 4 (fcWord 0x4 node)
  | .fc5Pdo2Tx node => leBytes 4 (fcWord 0x5 node)
  | .fc6Pdo2Rx node => leBytes 4 (fcWord 0x6 node)
  | .fc7Pdo3Tx node => leBytes 4 (fcWord 0x7 node)
  | .fc8Pdo3Rx node => leBytes 4 (fcWord 0x8 node)
  | .fc9Pdo4Tx node => leBytes 4 (fcWord 0x9 node)
  | .fcAPdo4Rx node => leBytes 4 (fcWord 0xA node)
  | .fcBSdoTx node => leBytes 4 (fcWord 0xB node)
  | .fcCSdoRx node => leBytes 4 (fcWord 0xC node)
  | .fcDUnknown node => leBytes 4 (fcWord 0xD node)
  | .fcENmtNodeGuard node => leBytes 4 (fcWord 0xE node)
  | .fcFUnknown node => leBytes 4 (fcWord 0xF node)
  | .nmtStart target => [0x01, target]
  | .nmtStop target => [0x02, target]
  | .nmtEnterPreOperational target => [0x80, target]
  | .nmtResetApplication target => [0x81, target]
  | .nmtResetCommunication target => [0x82, target]
  | .nmtIllegal command => [command, 0]
  | .sdoRxDownloadSegment o => sdoBytes 0x00 o
  | .sdoRxDownloadInitiate o => sdoBytes 0x20 o
  | .sdoRxUploadInitiate o => sdoBytes 0x40 o
  | .sdoRxUploadSegment o => sdoBytes 0x60 o
  | .sdoRxAbortTransfer o => sdoBytes 0x80 o
  | .sdoRxIllegalA0 => sdoBytes 0xA0 SdoOperands.zero
  | .sdoRxBlockDownload o => sdoBytes 0xC0 o
  | .sdoRxIllegalE0 => sdoBytes 0xE0 SdoOperands.zero
  | .sdoTxUploadSegment o => sdoBytes 0x00 o
  | .sdoTxDownloadSegment o => sdoBytes 0x20 o
  | .sdoTxUploadInitiate o => sdoBytes 0x40 o
  | .sdoTxDownloadInitiate o => sdoBytes 0x60 o
  | .sdoTxAbortTransfer o => sdoBytes 0x80 o
  | .sdoTxBlockDownload o => sdoBytes 0xA0 o
  | .sdoTxIllegalC0 => sdoBytes 0xC0 SdoOperands.zero
  | .sdoTxIllegalE0 => sdoBytes 0xE0 SdoOperands.zero
  | .abort05030000 => leBytes 4 0x05030000#32
  | .abort05040000 => leBytes 4 0x05040000#32
  | .abort05040001 => leBytes 4 0x05040001#32
  | .abort05040002 => leBytes 4 0x05040002#32
  | .abort05040003 => leBytes 4 0x05040003#32
  | .abort05040004 => leBytes 4 0x05040004#32
  | .abort05040005 => leBytes 4 0x05040005#32
  | .abort06010000 => leBytes 4 0x06010000#32
  | .abort06010001 => leBytes 4 0x06010001#32
  | .abort06010002 => leBytes 4 0x06010002#32
  | .abort06020000 => leBytes 4 0x06020000#32
  | .abort06040041 => leBytes 4 0x06040041#32
  | .abort06040042 => leBytes 4 0x06040042#32
  | .abort06040043 => leBytes 4 0x06040043#32
  | .abort06040047 => leBytes 4 0x06040047#32
  | .abort06060000 => leBytes 4 0x06060000#32
  | .abort06070010 => leBytes 4 0x06070010#32
  | .abort06070012 => leBytes 4 0x06070012#32
  | .abort06070013 => leBytes 4 0x06070013#32
  | .abort06090011 => leBytes 4 0x06090011#32
  | .abort06090030 => leBytes 4 0x06090030#32
  | .abort06090031 => leBytes 4 0x06090031#32
  | .abort06090032 => leBytes 4 0x06090032#32
  | .abort06090036 => leBytes 4 0x06090036#32
  | .abort060A0023 => leBytes 4 0x060A0023#32
  | .abort08000000 => leBytes 4 0x08000000#32
  | .abort08000020 => leBytes 4 0x08000020#32
  | .abort08000021 => leBytes 4 0x08000021#32
  | .abort08000022 => leBytes 4 0x08000022#32
  | .abort08000023 => leBytes 4 0x08000023#32
  | .abort08000024 => leBytes 4 0x08000024#32

/-! ### A lone word of the table (log entry 10) -/

/-- The format in which a lone word of the table is read. The word alone does not say its format: the table's
formats are places in the frame and share their bit patterns, so the choice is the model's. A 32-bit word that
is an abort code is ABORT32, otherwise an identifier, shown by its most telling row; an 8-bit word that is an
NMT command is NMT_B0, otherwise SDO_B0_RX. -/
def tableFormat (nbits w : Nat) : Option Format :=
  if nbits = 8 then
    if (tableFind nmtTable (BitVec.ofNat 8 w)).isSome then some .nmtB0 else some .sdoB0Rx
  else if nbits = 32 then
    let v := BitVec.ofNat 32 w
    if (tableFind abortRows v).isSome then some .abort32
    else if isExtended v then some .id32Class
    else if fcRaw v ≠ 0 then some .id32Std
    else if isRemoteRequest v then some .id32Rtr
    else if isErrorFrame v then some .id32Err
    else some .id32Std
  else if nbits % 8 = 0 then some .frameLen
  else none

/-- The bytes of a number of `n` bytes, least significant first. -/
def natBytes (n w : Nat) : List Byte := (List.range n).map fun k => BitVec.ofNat 8 (w >>> (8 * k))

/-- The field a lone word stands in, the bytes above the word at 0. -/
def tableField (nbits w : Nat) : Format → List Byte
  | .nmtB0 => natBytes 2 (w % 2 ^ nbits)
  | .sdoB0Rx | .sdoB0Tx => natBytes 8 (w % 2 ^ nbits)
  | .id32Class | .id32Rtr | .id32Err | .id32Std | .abort32 => natBytes 4 (w % 2 ^ nbits)
  | .frameLen => natBytes (nbits / 8) w

/-- The 16-byte frame in which the field of a lone word stands at its own place (R61, R62), everything else 0 but what
brings the decode map to that field: an NMT frame has identifier 0, an SDO payload stands in an SDO_RX frame
(identifier 0x600), and an abort code in an SDO_RX abort frame (byte 0 = 0x80). -/
def tableFrame (nbits w : Nat) : Format → List Byte
  | .nmtB0 => natBytes 8 0 ++ natBytes 8 (w % 2 ^ nbits)
  | .sdoB0Rx | .sdoB0Tx => natBytes 8 0x600 ++ natBytes 8 (w % 2 ^ nbits)
  | .id32Class | .id32Rtr | .id32Err | .id32Std => natBytes 16 (w % 2 ^ nbits)
  | .abort32 => natBytes 8 0x600 ++ natBytes 4 0x80 ++ natBytes 4 (w % 2 ^ nbits)
  | .frameLen => natBytes (nbits / 8) w

/-- The row the decoder reads from a lone word of the table. -/
def decodeTableWord (nbits w : Nat) : Option Instr :=
  match tableFormat nbits w with
  | some f => (decode f (tableField nbits w f)).toOption
  | none => none

end Sys2Proof
end

