-- ==== Sys2Proof/Machine/State.lean ====
section
/-! DEFINITION. The state: the block's port wires, its build-time tables, and the model's own stimulus fields. The block has
no architectural state (R30): nothing here is read back by a later decode. Also the stop reasons, and the reset state. -/

namespace Sys2Proof.Machine

/-- The reasons a step stops with a fault: none. Every operation of the block is total and a decode error is a value
on the ports (R12, R207, R236), so no meaning raises a fault and the type has no constructor. -/
inductive Fault where
  deriving DecidableEq, Repr

/-- The reasons the model refuses a step. -/
inductive Refusal where
  /-- Raised by an arm of `exec` whose row has no meaning yet; safe. No arm of this model uses it. -/
  | notModelled (mnemonic : String)
  deriving DecidableEq, Repr

/-- Everything the spec gives the block and its surroundings, as plain data. -/
structure State where
  /-- The build-time parameters and tables (R8, R31), never written. -/
  build : Build
  /-- The input ports (R44). -/
  inp : InPorts
  /-- R263: `in_valid`, `in_len` and `in_data` were held for `T_PD` before the outputs were sampled. -/
  dataHeld : Bool
  /-- R263: `cv_tag` was held for `T_PD` before the query outputs were sampled. -/
  cvHeld : Bool
  /-- The output ports of the decode path (R45), as sampled. -/
  out : OutPorts
  /-- The output ports of the reverse-lookup query (R48), as sampled. -/
  cv : CvPorts
  /-- The presentations the frame source has still to make, in order (R70; log entry 6). -/
  pending : List Sample
  /-- The counter of free values (R263; log entry 9). -/
  freeSeq : Nat
  deriving DecidableEq, Repr

/-- The block after power-up. R260: it has no register to reset and its outputs equal the function of the current inputs;
the input wires are the frame source's, chosen all 0 (log entry 7). A buffer of length 0 is an InvalidFrameLength error
(R110, R230), and `cv_tag` 0 is NMT_MC with raw value 0 (R145). -/
def State.reset : State where
  build := Build.default
  inp := { inValid := false, inLen := 0, inData := 0, cvTag := 0 }
  dataHeld := true
  cvHeld := true
  out := { OutPorts.zero with status := 1 }
  cv := { cvValid := true, cvValue := 0 }
  pending := []
  freeSeq := 0

end Sys2Proof.Machine
end

