-- ==== Sys2Proof/Machine/Ops.lean ====
section
/-! DEFINITION. The shared operations: raising a decode error (the block's only exception, R230 to R236), and driving the
output ports from the RawFrame, the identifier, the role and the sub-frame (R45, R46). -/

namespace Sys2Proof

/-- R230: the code of an error on `status`. -/
def DecodeError.code : DecodeError → BitVec 3
  | .invalidFrameLength => 1
  | .unknownFunctionCode _ => 2
  | .unknownNmtCommand _ => 3
  | .unknownSdoCommand _ => 4

/-- R231: the value an error carries on `err_value`. -/
def DecodeError.value : DecodeError → Byte
  | .invalidFrameLength => 0
  | .unknownFunctionCode raw => raw.setWidth 8
  | .unknownNmtCommand raw => raw
  | .unknownSdoCommand raw => raw

/-- R45, R46: the ports of a decode that returned an error: `status` and `err_value` carry it, `out_valid` is
`in_valid` (R47), every other port is 0. -/
def OutPorts.ofError (valid : Bool) (e : DecodeError) : OutPorts :=
  { OutPorts.zero with outValid := valid, status := e.code, errValue := e.value }

/-- R45, R62: the ports of the RawFrame, every other port at 0. -/
def OutPorts.ofRaw (valid : Bool) (raw : RawFrame) : OutPorts :=
  { OutPorts.zero with
    outValid := valid
    id := raw.identifier
    dlc := raw.declaredLength
    payload := raw.payload.port }

/-- R45: the NMT ports of a sub-frame that is NMT master control. -/
def OutPorts.putNmt (o : OutPorts) (command : NmtCommand) (target : Byte) : OutPorts :=
  { o with nmtCmd := command.code, nmtTarget := target }

/-- R45: the SDO and abort ports of an SDO sub-frame. -/
def OutPorts.putSdo (o : OutPorts) (f : SdoFields) : OutPorts :=
  { o with
    sdoCs := f.commandSpecifier
    sdoTag := f.tag.code
    sdoE := f.expedited
    sdoS := f.sizeIndicated
    sdoCount := f.expeditedByteCount.setWidth 3
    sdoIndex := f.index
    sdoSubindex := f.subIndex
    sdoDataValid := f.expeditedData.isSome
    sdoData := sdoDataPort f.expeditedData
    sdoAbortCode := f.abortCode
    abortHit := f.abortEntry.isSome
    abortIdx := BitVec.ofNat 5 (f.abortEntry.getD 0) }

/-- R46: every sub-frame port at 0, with the kind of the variant taken (R40). -/
def OutPorts.clearSub (o : OutPorts) (kind : BitVec 3) : OutPorts :=
  { o with
    subKind := kind
    nmtCmd := 0
    nmtTarget := 0
    sdoCs := 0
    sdoTag := 0
    sdoE := false
    sdoS := false
    sdoCount := 0
    sdoIndex := 0
    sdoSubindex := 0
    sdoDataValid := false
    sdoData := 0
    sdoAbortCode := 0
    abortHit := false
    abortIdx := 0 }

/-- R40: the port code of a variant. -/
def SubFrame.kind : SubFrame → BitVec 3
  | .unknown _ => 0
  | .nmtMasterControl _ _ => 1
  | .sdoRx _ => 2
  | .sdoTx _ => 3
  | .pdoOpaque _ => 4

/-- R45, R46: the sub-frame ports; the fields of a variant not taken are 0. -/
def OutPorts.putSub (o : OutPorts) (s : SubFrame) : OutPorts :=
  match s with
  | .unknown _ => o.clearSub s.kind
  | .nmtMasterControl c t => (o.clearSub s.kind).putNmt c t
  | .sdoRx f => (o.clearSub s.kind).putSdo f
  | .sdoTx f => (o.clearSub s.kind).putSdo f
  | .pdoOpaque _ => o.clearSub s.kind

/-- R45: the function-code and node-id ports; both are absent for an extended identifier (R202). -/
def OutPorts.putFunction (o : OutPorts) (fc : Option (BitVec 4 × FunctionCode)) (node : Option (BitVec 7)) : OutPorts :=
  { o with
    fcValid := fc.isSome
    fcRaw := (fc.map Prod.fst).getD 0
    fcTag := (fc.map fun e => e.2.tag).getD 0
    role := roleBits (fc.map Prod.snd)
    nodeIdValid := node.isSome
    nodeId := node.getD 0 }

namespace Machine

/-- A meaning's answer. -/
abbrev Result := Host.Outcome State Fault Refusal

/-- Raise a decode error (R12, R46, R236): the error goes to the ports and nothing else of the frame is seen. The next
buffer decodes as if it had not happened (R237), so nothing is saved and there is no return. -/
def raise (e : DecodeError) (s : State) : State := { s with out := OutPorts.ofError s.inp.inValid e }

/-- R110 to R114: the slicer's outputs start the decode of a buffer. -/
def driveRaw (raw : RawFrame) (s : State) : State := { s with out := OutPorts.ofRaw s.inp.inValid raw }

/-- The identifier ports of the class (R121, R122, R125 to R128) from the 29 address bits: the masks are applied whatever
the class; only the generic node address depends on it. -/
def driveClass (extended : Bool) (addr : BitVec 29) (s : State) : State :=
  { s with out := { s.out with
      fExt := extended
      fStd := !extended
      nodeAddr := if extended then addr else (addr.setWidth 11).setWidth 29
      stdAddr := addr.setWidth 11
      extAddr := addr
      errBits := addr } }

/-- R202: an extended frame has no function code, no node id, and an Unknown sub-frame. -/
def driveNoFunction (s : State) : State :=
  { s with out := (s.out.putFunction none none).putSub (.unknown (Payload.ofPort s.out.payload)) }

/-- R203: the sub-frame of a role that carries no structured payload, the whole payload window (R206); none here for the
three roles whose payload has a decoder. -/
def opaqueSub (role : FunctionCode) (p : Payload) : Option SubFrame :=
  match role with
  | .nmtMc | .sdoRx | .sdoTx => none
  | .pdo1Tx | .pdo1Rx | .pdo2Tx | .pdo2Rx | .pdo3Tx | .pdo3Rx | .pdo4Tx | .pdo4Rx => some (.pdoOpaque p)
  | .syncEmcy | .timestamp | .nmtNodeGuard | .unknown => some (.unknown p)

/-- The function-code row of a raw value (R140 to R144, R203, R205): resolve it in `FC_MAP`, drive the role and the node id,
and the sub-frame where the role has no payload decoder. -/
def driveRole (raw : BitVec 4) (node : BitVec 7) (s : State) : State :=
  let role := resolve s.build.fcMap raw
  let o := s.out.putFunction (some (raw, role)) (some node)
  { s with
    out := match opaqueSub role (Payload.ofPort s.out.payload) with
      | some sub => o.putSub sub
      | none => o }

/-- An NMT command row (R161). -/
def driveNmt (command : NmtCommand) (target : Byte) (s : State) : State :=
  { s with out := s.out.putSub (.nmtMasterControl command target) }

/-- R203: the sub-frame variant of a direction. -/
def sdoSub : Direction → SdoFields → SubFrame
  | .rx, f => .sdoRx f
  | .tx, f => .sdoTx f

/-- The SdoFields of a command row (R183) from its operands: byte 0 is the row's command specifier over bits 4:0. -/
def sdoFieldsOf (b : Build) (cs : Byte) (tag : SdoTag) (o : SdoOperands) : SdoFields :=
  let b0 := cs ||| o.low.setWidth 8
  let data := [o.d0, o.d1, o.d2, o.d3]
  let code := leAssemble 32 data
  { commandSpecifier := cs
    tag := tag
    expedited := (sdoFlags tag b0).1
    sizeIndicated := (sdoFlags tag b0).2
    expeditedByteCount := sdoCount tag b0
    index := o.index
    subIndex := o.subIndex
    expeditedData := sdoData tag b0 data
    abortCode := code
    abortEntry := if tag = .abortTransfer then abortLookup b.abortTable code else none }

/-- An SDO command row (R183). -/
def driveSdo (dir : Direction) (cs : Byte) (tag : SdoTag) (o : SdoOperands) (s : State) : State :=
  { s with out := s.out.putSub (sdoSub dir (sdoFieldsOf s.build cs tag o)) }

/-- An abort-table row (R181): the lookup of its code in `ABORT_TABLE`. -/
def driveAbort (code : BitVec 32) (s : State) : State :=
  let e := abortLookup s.build.abortTable code
  { s with out := { s.out with abortHit := e.isSome, abortIdx := BitVec.ofNat 5 (e.getD 0) } }

end Machine
end Sys2Proof
end

