-- ==== Sys2Proof/Machine/Compose.lean ====
section
/-! DEFINITION. The complete operation as the spec writes it: PARSE (R110), NMT_DECODE (R161), SDO_DECODE (R183), DECODE (R200)
over byte lists of any length (D39), its projection to the ports (R45, R46), and the predicate accessors (R205). -/

namespace Sys2Proof

/-- R110: `PARSE`. -/
def parseFrame (buf : List Byte) : Except DecodeError RawFrame :=
  if buf.length ≠ 16 then .error .invalidFrameLength
  else .ok
    { identifier := memRead buf 0 4
      declaredLength := memRead buf 4 1
      payload := ⟨memRead buf 8 1, memRead buf 9 1, memRead buf 10 1, memRead buf 11 1,
        memRead buf 12 1, memRead buf 13 1, memRead buf 14 1, memRead buf 15 1⟩ }

/-- R161: `NMT_DECODE`; payload bytes 0 and 1 are read whatever the declared length (R163). -/
def nmtDecode (p : Payload) : Except DecodeError SubFrame :=
  match tableFind nmtTable p.p0 with
  | some command => .ok (.nmtMasterControl command p.p1)
  | none => .error (.unknownNmtCommand p.p0)

/-- R183: `SDO_DECODE`. -/
def sdoDecode (b : Build) (dir : Direction) (p : Payload) : Except DecodeError SdoFields :=
  let cs := sdoCs p.p0
  match sdoTagOf dir cs with
  | none => .error (.unknownSdoCommand cs)
  | some tag => .ok
    { commandSpecifier := cs
      tag := tag
      expedited := (sdoFlags tag p.p0).1
      sizeIndicated := (sdoFlags tag p.p0).2
      expeditedByteCount := sdoCount tag p.p0
      index := sdoIndex p
      subIndex := sdoSubIndex p
      expeditedData := sdoData tag p.p0 [p.p4, p.p5, p.p6, p.p7]
      abortCode := sdoAbortCode p
      abortEntry := if tag = .abortTransfer then abortLookup b.abortTable (sdoAbortCode p) else none }

/-- R203: the sub-frame of a standard frame by its role. -/
def subFrameOf (b : Build) (role : FunctionCode) (p : Payload) : Except DecodeError SubFrame :=
  match role with
  | .nmtMc => nmtDecode p
  | .sdoRx => (sdoDecode b .rx p).map .sdoRx
  | .sdoTx => (sdoDecode b .tx p).map .sdoTx
  | .pdo1Tx | .pdo1Rx | .pdo2Tx | .pdo2Rx | .pdo3Tx | .pdo3Rx | .pdo4Tx | .pdo4Rx => .ok (.pdoOpaque p)
  | .syncEmcy | .timestamp | .nmtNodeGuard | .unknown => .ok (.unknown p)

/-- R200: `DECODE` from the parsed fields on: the extended case (R202), else the role and its sub-frame. -/
def decodeRaw (b : Build) (raw : RawFrame) : Except DecodeError CanOpenFrame :=
  let id := raw.identifier
  if isExtended id then
    .ok { raw := raw, functionCode := none, nodeId := none, subFrame := .unknown raw.payload }
  else
    let fc := resolve b.fcMap (fcRaw id)
    match subFrameOf b fc raw.payload with
    | .error e => .error e
    | .ok sub => .ok { raw := raw, functionCode := some fc, nodeId := some (canopenNodeId id), subFrame := sub }

/-- R200: `DECODE`, the block's one complete operation. -/
def decodeBuffer (b : Build) (buf : List Byte) : Except DecodeError CanOpenFrame :=
  match parseFrame buf with
  | .error e => .error e
  | .ok raw => decodeRaw b raw

/-- R45, R46: the ports of a decoded frame. -/
def framePorts (valid : Bool) (f : CanOpenFrame) : OutPorts :=
  let id := f.raw.identifier
  let o := { OutPorts.ofRaw valid f.raw with
    fExt := isExtended id
    fStd := isStandard id
    fRtr := isRemoteRequest id
    fErr := isErrorFrame id
    nodeAddr := nodeAddress id
    stdAddr := stdAddress id
    extAddr := extAddress id
    errBits := errBits id }
  (o.putFunction (f.functionCode.map fun fc => (fcRaw id, fc)) f.nodeId).putSub f.subFrame

/-- R45, R46: the ports as a projection of the decode result (R42). -/
def portsOf (valid : Bool) (r : Except DecodeError CanOpenFrame) : OutPorts :=
  match r with
  | .error e => OutPorts.ofError valid e
  | .ok f => framePorts valid f

/-- R48: the ports of the reverse lookup. -/
def queryPorts (m : List (BitVec 4 × FunctionCode)) (tag : BitVec 4) : CvPorts where
  cvValid := (codeValue m tag).isSome
  cvValue := (codeValue m tag).getD 0

/-- The decode of what stands on the input ports (R44): no lane is read unless `in_len` is 16. -/
def InPorts.decoded (p : InPorts) (b : Build) : Except DecodeError CanOpenFrame :=
  if p.inLen = 16 then decodeBuffer b (lanes p.inData) else .error .invalidFrameLength

/-- The input ports present the buffer `buf` (R44): its length on `in_len`, its first 16 bytes on the lanes of `in_data`,
and any value on the lanes past its end. -/
def InPorts.Presents (p : InPorts) (buf : List Byte) : Prop :=
  p.inLen = buf.length ∧ ∀ k b, k < 16 → buf[k]? = some b → laneOf p.inData k = b

/-! ### Predicate accessors (R205) -/

/-- A frame whose function code is the given role. -/
def CanOpenFrame.hasRole (f : CanOpenFrame) (c : FunctionCode) : Bool := f.functionCode = some c

def CanOpenFrame.isNmtMasterControl (f : CanOpenFrame) : Bool := f.hasRole .nmtMc
/-- R143: one role answers both `isSync` and `isEmergency`. -/
def CanOpenFrame.isSync (f : CanOpenFrame) : Bool := f.hasRole .syncEmcy
def CanOpenFrame.isEmergency (f : CanOpenFrame) : Bool := f.hasRole .syncEmcy
def CanOpenFrame.isTimestamp (f : CanOpenFrame) : Bool := f.hasRole .timestamp
def CanOpenFrame.isPdo1Tx (f : CanOpenFrame) : Bool := f.hasRole .pdo1Tx
def CanOpenFrame.isPdo1Rx (f : CanOpenFrame) : Bool := f.hasRole .pdo1Rx
def CanOpenFrame.isPdo2Tx (f : CanOpenFrame) : Bool := f.hasRole .pdo2Tx
def CanOpenFrame.isPdo2Rx (f : CanOpenFrame) : Bool := f.hasRole .pdo2Rx
def CanOpenFrame.isPdo3Tx (f : CanOpenFrame) : Bool := f.hasRole .pdo3Tx
def CanOpenFrame.isPdo3Rx (f : CanOpenFrame) : Bool := f.hasRole .pdo3Rx
def CanOpenFrame.isPdo4Tx (f : CanOpenFrame) : Bool := f.hasRole .pdo4Tx
def CanOpenFrame.isPdo4Rx (f : CanOpenFrame) : Bool := f.hasRole .pdo4Rx
def CanOpenFrame.isSdoTx (f : CanOpenFrame) : Bool := f.hasRole .sdoTx
def CanOpenFrame.isSdoRx (f : CanOpenFrame) : Bool := f.hasRole .sdoRx
def CanOpenFrame.isNmtNodeGuard (f : CanOpenFrame) : Bool := f.hasRole .nmtNodeGuard
def CanOpenFrame.isUnknownFunction (f : CanOpenFrame) : Bool := f.hasRole .unknown
def CanOpenFrame.isExtendedFrame (f : CanOpenFrame) : Bool := isExtended f.raw.identifier
def CanOpenFrame.isStandardFrame (f : CanOpenFrame) : Bool := isStandard f.raw.identifier
def CanOpenFrame.isRemoteRequestFrame (f : CanOpenFrame) : Bool := isRemoteRequest f.raw.identifier
def CanOpenFrame.isErrorFlagFrame (f : CanOpenFrame) : Bool := isErrorFrame f.raw.identifier

end Sys2Proof
end

