-- ==== Sys2Proof/Machine/Aborts.lean ====
section
/-! DEFINITION. The abort-table rows (spec/44_sdo.md R181, R185). Under the default table row i hits at index i. -/

namespace Sys2Proof.Machine

/-- ABORT_05030000: "Toggle bit not alternated" (R182). -/
def execAbort05030000 (s : State) : Result := .next (driveAbort 0x05030000#32 s)

/-- ABORT_05040000: "SDO protocol timed out" (R185). -/
def execAbort05040000 (s : State) : Result := .next (driveAbort 0x05040000#32 s)

/-- ABORT_05040001: "Client/server command specifier not valid or unknown" (R185). -/
def execAbort05040001 (s : State) : Result := .next (driveAbort 0x05040001#32 s)

/-- ABORT_05040002: "Invalid block size (block mode only)" (R185). -/
def execAbort05040002 (s : State) : Result := .next (driveAbort 0x05040002#32 s)

/-- ABORT_05040003: "Invalid sequence number (block mode only)" (R185). -/
def execAbort05040003 (s : State) : Result := .next (driveAbort 0x05040003#32 s)

/-- ABORT_05040004: "CRC error (block mode only)" (R185). -/
def execAbort05040004 (s : State) : Result := .next (driveAbort 0x05040004#32 s)

/-- ABORT_05040005: "Out of memory" (R185). -/
def execAbort05040005 (s : State) : Result := .next (driveAbort 0x05040005#32 s)

/-- ABORT_06010000: "Unsupported access to an object" (R185). -/
def execAbort06010000 (s : State) : Result := .next (driveAbort 0x06010000#32 s)

/-- ABORT_06010001: "Attempt to read a write only object" (R185). -/
def execAbort06010001 (s : State) : Result := .next (driveAbort 0x06010001#32 s)

/-- ABORT_06010002: "Attempt to write a read only object" (R185). -/
def execAbort06010002 (s : State) : Result := .next (driveAbort 0x06010002#32 s)

/-- ABORT_06020000: "Object does not exist in the Object Dictionary" (R182). -/
def execAbort06020000 (s : State) : Result := .next (driveAbort 0x06020000#32 s)

/-- ABORT_06040041: "Object cannot be mapped to the PDO" (R185). -/
def execAbort06040041 (s : State) : Result := .next (driveAbort 0x06040041#32 s)

/-- ABORT_06040042: "The number and length of the objects to be mapped would exceed PDO length" (R185). -/
def execAbort06040042 (s : State) : Result := .next (driveAbort 0x06040042#32 s)

/-- ABORT_06040043: "General parameter incompatibility reason" (R185). -/
def execAbort06040043 (s : State) : Result := .next (driveAbort 0x06040043#32 s)

/-- ABORT_06040047: "General internal incompatibility in the device" (R185). -/
def execAbort06040047 (s : State) : Result := .next (driveAbort 0x06040047#32 s)

/-- ABORT_06060000: "Access failed due to an hardware error" (R185). -/
def execAbort06060000 (s : State) : Result := .next (driveAbort 0x06060000#32 s)

/-- ABORT_06070010: "Data type does not match, length of service parameter does not match" (R185). -/
def execAbort06070010 (s : State) : Result := .next (driveAbort 0x06070010#32 s)

/-- ABORT_06070012: "Data type does not match, length of service parameter too high" (R185). -/
def execAbort06070012 (s : State) : Result := .next (driveAbort 0x06070012#32 s)

/-- ABORT_06070013: "Data type does not match, length of service parameter too low" (R185). -/
def execAbort06070013 (s : State) : Result := .next (driveAbort 0x06070013#32 s)

/-- ABORT_06090011: "Sub-index does not exist" (R185). -/
def execAbort06090011 (s : State) : Result := .next (driveAbort 0x06090011#32 s)

/-- ABORT_06090030: "Invalid value for parameter (download only)" (R185). -/
def execAbort06090030 (s : State) : Result := .next (driveAbort 0x06090030#32 s)

/-- ABORT_06090031: "Value of parameter written too high (download only)" (R185). -/
def execAbort06090031 (s : State) : Result := .next (driveAbort 0x06090031#32 s)

/-- ABORT_06090032: "Value of parameter written too low (download only)" (R185). -/
def execAbort06090032 (s : State) : Result := .next (driveAbort 0x06090032#32 s)

/-- ABORT_06090036: "Maximum value is less than minimum value" (R185). -/
def execAbort06090036 (s : State) : Result := .next (driveAbort 0x06090036#32 s)

/-- ABORT_060A0023: "Resource not available: SDO connection" (R185). -/
def execAbort060A0023 (s : State) : Result := .next (driveAbort 0x060A0023#32 s)

/-- ABORT_08000000: "General error" (R185). -/
def execAbort08000000 (s : State) : Result := .next (driveAbort 0x08000000#32 s)

/-- ABORT_08000020: "Data cannot be transferred or stored to the application" (R185). -/
def execAbort08000020 (s : State) : Result := .next (driveAbort 0x08000020#32 s)

/-- ABORT_08000021: "Data cannot be transferred or stored to the application because of local control" (R185). -/
def execAbort08000021 (s : State) : Result := .next (driveAbort 0x08000021#32 s)

/-- ABORT_08000022: "Data cannot be transferred or stored to the application because of the present device state" (R185). -/
def execAbort08000022 (s : State) : Result := .next (driveAbort 0x08000022#32 s)

/-- ABORT_08000023: "Object dictionary dynamic generation fails or no object dictionary is present" (R185). -/
def execAbort08000023 (s : State) : Result := .next (driveAbort 0x08000023#32 s)

/-- ABORT_08000024: "No data available" (R185). -/
def execAbort08000024 (s : State) : Result := .next (driveAbort 0x08000024#32 s)

end Sys2Proof.Machine
end

