-- ==== Sys2Proof/Machine/Classifier.lean ====
section
/-! DEFINITION. The identifier classifier (spec/41_identifier.md): the class rows and the two orthogonal flag tests. -/

namespace Sys2Proof.Machine

/-- IS_EXTENDED: `f_ext`, the address ports, and the extended composition (R121, R125 to R128, R202). -/
def execIsExtended (_rtr _err : Bool) (addr : BitVec 29) (s : State) : Result :=
  .next (driveNoFunction (driveClass true addr s))

/-- IS_STANDARD: `f_std` and the address ports (R122, R125 to R128). -/
def execIsStandard (_rtr _err : Bool) (addr : BitVec 29) (s : State) : Result := .next (driveClass false addr s)

/-- IS_REMOTE_REQUEST: `f_rtr`, and nothing else (R123, R204). -/
def execIsRemoteRequest (_eff _err : Bool) (_addr : BitVec 29) (s : State) : Result :=
  .next { s with out := { s.out with fRtr := true } }

/-- IS_ERROR_FRAME: `f_err`, and nothing else (R124, R204). -/
def execIsErrorFrame (_eff _rtr : Bool) (_addr : BitVec 29) (s : State) : Result :=
  .next { s with out := { s.out with fErr := true } }

end Sys2Proof.Machine
end

