-- ==== Sys2Proof/Machine/FunctionCodes.lean ====
section
/-! DEFINITION. The function-code rows (spec/42_function_code.md). A row is a raw value; its role is what `FC_MAP` gives it (R142), under the
default table the role of its name (log entry 3). -/

namespace Sys2Proof.Machine

/-- FC_0_NMT_MC: raw function code 0x0 (R141). -/
def execFc0NmtMc (node : BitVec 7) (s : State) : Result := .next (driveRole 0x0 node s)

/-- FC_1_SYNC_EMCY: raw function code 0x1 (R141). -/
def execFc1SyncEmcy (node : BitVec 7) (s : State) : Result := .next (driveRole 0x1 node s)

/-- FC_2_TIMESTAMP: raw function code 0x2 (R141). -/
def execFc2Timestamp (node : BitVec 7) (s : State) : Result := .next (driveRole 0x2 node s)

/-- FC_3_PDO1_TX: raw function code 0x3 (R141). -/
def execFc3Pdo1Tx (node : BitVec 7) (s : State) : Result := .next (driveRole 0x3 node s)

/-- FC_4_PDO1_RX: raw function code 0x4 (R141). -/
def execFc4Pdo1Rx (node : BitVec 7) (s : State) : Result := .next (driveRole 0x4 node s)

/-- FC_5_PDO2_TX: raw function code 0x5 (R141). -/
def execFc5Pdo2Tx (node : BitVec 7) (s : State) : Result := .next (driveRole 0x5 node s)

/-- FC_6_PDO2_RX: raw function code 0x6 (R141). -/
def execFc6Pdo2Rx (node : BitVec 7) (s : State) : Result := .next (driveRole 0x6 node s)

/-- FC_7_PDO3_TX: raw function code 0x7 (R141). -/
def execFc7Pdo3Tx (node : BitVec 7) (s : State) : Result := .next (driveRole 0x7 node s)

/-- FC_8_PDO3_RX: raw function code 0x8 (R141). -/
def execFc8Pdo3Rx (node : BitVec 7) (s : State) : Result := .next (driveRole 0x8 node s)

/-- FC_9_PDO4_TX: raw function code 0x9 (R141). -/
def execFc9Pdo4Tx (node : BitVec 7) (s : State) : Result := .next (driveRole 0x9 node s)

/-- FC_A_PDO4_RX: raw function code 0xA (R141). -/
def execFcAPdo4Rx (node : BitVec 7) (s : State) : Result := .next (driveRole 0xA node s)

/-- FC_B_SDO_TX: raw function code 0xB (R141). -/
def execFcBSdoTx (node : BitVec 7) (s : State) : Result := .next (driveRole 0xB node s)

/-- FC_C_SDO_RX: raw function code 0xC (R141). -/
def execFcCSdoRx (node : BitVec 7) (s : State) : Result := .next (driveRole 0xC node s)

/-- FC_D_UNKNOWN: raw function code 0xD (R142). -/
def execFcDUnknown (node : BitVec 7) (s : State) : Result := .next (driveRole 0xD node s)

/-- FC_E_NMT_NODE_GUARD: raw function code 0xE (R141). -/
def execFcENmtNodeGuard (node : BitVec 7) (s : State) : Result := .next (driveRole 0xE node s)

/-- FC_F_UNKNOWN: raw function code 0xF (R142). -/
def execFcFUnknown (node : BitVec 7) (s : State) : Result := .next (driveRole 0xF node s)

end Sys2Proof.Machine
end

