-- ==== Sys2Proof/Machine/Nmt.lean ====
section
/-! DEFINITION. The NMT command rows (spec/43_nmt.md). -/

namespace Sys2Proof.Machine

/-- NMT_START: command byte 0x01 (R160 to R163). -/
def execNmtStart (target : Byte) (s : State) : Result := .next (driveNmt .start target s)

/-- NMT_STOP: command byte 0x02 (R160 to R163). -/
def execNmtStop (target : Byte) (s : State) : Result := .next (driveNmt .stop target s)

/-- NMT_ENTER_PRE_OPERATIONAL: command byte 0x80 (R160 to R163). -/
def execNmtEnterPreOperational (target : Byte) (s : State) : Result := .next (driveNmt .enterPreOperational target s)

/-- NMT_RESET_APPLICATION: command byte 0x81 (R160 to R163). -/
def execNmtResetApplication (target : Byte) (s : State) : Result := .next (driveNmt .resetApplication target s)

/-- NMT_RESET_COMMUNICATION: command byte 0x82 (R160 to R163). -/
def execNmtResetCommunication (target : Byte) (s : State) : Result := .next (driveNmt .resetCommunication target s)

/-- NMT_ILLEGAL: the whole byte is attached (R161, R164, R95). -/
def execNmtIllegal (command : Byte) (s : State) : Result := .next (raise (.unknownNmtCommand command) s)

end Sys2Proof.Machine
end

