-- ==== Sys2Proof/Machine/Sdo.lean ====
section
/-! DEFINITION. The SDO command rows of both directions (spec/44_sdo.md). -/

namespace Sys2Proof.Machine

/-- SDO_RX_DOWNLOAD_SEGMENT: command specifier 0x00 in Rx (R171, R183). -/
def execSdoRxDownloadSegment (o : SdoOperands) (s : State) : Result := .next (driveSdo .rx 0x00 .downloadSegment o s)

/-- SDO_RX_DOWNLOAD_INITIATE: command specifier 0x20 in Rx (R171, R183). -/
def execSdoRxDownloadInitiate (o : SdoOperands) (s : State) : Result :=
  .next (driveSdo .rx 0x20 .downloadInitiate o s)

/-- SDO_RX_UPLOAD_INITIATE: command specifier 0x40 in Rx (R171, R183). -/
def execSdoRxUploadInitiate (o : SdoOperands) (s : State) : Result := .next (driveSdo .rx 0x40 .uploadInitiate o s)

/-- SDO_RX_UPLOAD_SEGMENT: command specifier 0x60 in Rx (R171, R183). -/
def execSdoRxUploadSegment (o : SdoOperands) (s : State) : Result := .next (driveSdo .rx 0x60 .uploadSegment o s)

/-- SDO_RX_ABORT_TRANSFER: command specifier 0x80 in Rx (R171, R183). -/
def execSdoRxAbortTransfer (o : SdoOperands) (s : State) : Result := .next (driveSdo .rx 0x80 .abortTransfer o s)

/-- SDO_RX_ILLEGAL_A0: the command specifier is attached (R172, R187, R96). -/
def execSdoRxIllegalA0 (s : State) : Result := .next (raise (.unknownSdoCommand 0xA0) s)

/-- SDO_RX_BLOCK_DOWNLOAD: command specifier 0xC0 in Rx (R171, R183). -/
def execSdoRxBlockDownload (o : SdoOperands) (s : State) : Result := .next (driveSdo .rx 0xC0 .blockDownload o s)

/-- SDO_RX_ILLEGAL_E0: the command specifier is attached (R172, R187, R96). -/
def execSdoRxIllegalE0 (s : State) : Result := .next (raise (.unknownSdoCommand 0xE0) s)

/-- SDO_TX_UPLOAD_SEGMENT: command specifier 0x00 in Tx (R171, R183). -/
def execSdoTxUploadSegment (o : SdoOperands) (s : State) : Result := .next (driveSdo .tx 0x00 .uploadSegment o s)

/-- SDO_TX_DOWNLOAD_SEGMENT: command specifier 0x20 in Tx (R171, R183). -/
def execSdoTxDownloadSegment (o : SdoOperands) (s : State) : Result := .next (driveSdo .tx 0x20 .downloadSegment o s)

/-- SDO_TX_UPLOAD_INITIATE: command specifier 0x40 in Tx (R171, R183). -/
def execSdoTxUploadInitiate (o : SdoOperands) (s : State) : Result := .next (driveSdo .tx 0x40 .uploadInitiate o s)

/-- SDO_TX_DOWNLOAD_INITIATE: command specifier 0x60 in Tx (R171, R183). -/
def execSdoTxDownloadInitiate (o : SdoOperands) (s : State) : Result :=
  .next (driveSdo .tx 0x60 .downloadInitiate o s)

/-- SDO_TX_ABORT_TRANSFER: command specifier 0x80 in Tx (R171, R183). -/
def execSdoTxAbortTransfer (o : SdoOperands) (s : State) : Result := .next (driveSdo .tx 0x80 .abortTransfer o s)

/-- SDO_TX_BLOCK_DOWNLOAD: command specifier 0xA0 in Tx (R171, R183). -/
def execSdoTxBlockDownload (o : SdoOperands) (s : State) : Result := .next (driveSdo .tx 0xA0 .blockDownload o s)

/-- SDO_TX_ILLEGAL_C0: the command specifier is attached (R172, R187, R96). -/
def execSdoTxIllegalC0 (s : State) : Result := .next (raise (.unknownSdoCommand 0xC0) s)

/-- SDO_TX_ILLEGAL_E0: the command specifier is attached (R172, R187, R96). -/
def execSdoTxIllegalE0 (s : State) : Result := .next (raise (.unknownSdoCommand 0xE0) s)

end Sys2Proof.Machine
end

