-- ==== Sys2Proof/Machine/Slicer.lean ====
section
/-! DEFINITION. The RawFrame slicer (spec/40_frame_parse.md): PARSE and the frame-length check. -/

namespace Sys2Proof.Machine

/-- PARSE: the three fields of the RawFrame reach their ports (R110 to R115). -/
def execParse (id : Ident) (dlc : Byte) (payload : Payload) (s : State) : Result :=
  .next (driveRaw { identifier := id, declaredLength := dlc, payload := payload } s)

/-- INVALID_FRAME_LENGTH: every length but 16 fails alike (R110, R116). -/
def execInvalidFrameLength (_len : Nat) (s : State) : Result := .next (raise .invalidFrameLength s)

end Sys2Proof.Machine
end

