-- ==== Sys2Proof/Machine/Dispatch.lean ====
section
/-! DEFINITION. The dispatch: one arm per row of spec/opcode_table.json. -/

namespace Sys2Proof.Machine

def exec (i : Instr) (s : State) : Host.Outcome State Fault Refusal :=
  match i with
  | .parse id dlc payload => Sys2Proof.Machine.execParse id dlc payload s
  | .invalidFrameLength len => Sys2Proof.Machine.execInvalidFrameLength len s
  | .isExtended rtr err addr => Sys2Proof.Machine.execIsExtended rtr err addr s
  | .isStandard rtr err addr => Sys2Proof.Machine.execIsStandard rtr err addr s
  | .isRemoteRequest eff err addr => Sys2Proof.Machine.execIsRemoteRequest eff err addr s
  | .isErrorFrame eff rtr addr => Sys2Proof.Machine.execIsErrorFrame eff rtr addr s
  | .fc0NmtMc node => Sys2Proof.Machine.execFc0NmtMc node s
  | .fc1SyncEmcy node => Sys2Proof.Machine.execFc1SyncEmcy node s
  | .fc2Timestamp node => Sys2Proof.Machine.execFc2Timestamp node s
  | .fc3Pdo1Tx node => Sys2Proof.Machine.execFc3Pdo1Tx node s
  | .fc4Pdo1Rx node => Sys2Proof.Machine.execFc4Pdo1Rx node s
  | .fc5Pdo2Tx node => Sys2Proof.Machine.execFc5Pdo2Tx node s
  | .fc6Pdo2Rx node => Sys2Proof.Machine.execFc6Pdo2Rx node s
  | .fc7Pdo3Tx node => Sys2Proof.Machine.execFc7Pdo3Tx node s
  | .fc8Pdo3Rx node => Sys2Proof.Machine.execFc8Pdo3Rx node s
  | .fc9Pdo4Tx node => Sys2Proof.Machine.execFc9Pdo4Tx node s
  | .fcAPdo4Rx node => Sys2Proof.Machine.execFcAPdo4Rx node s
  | .fcBSdoTx node => Sys2Proof.Machine.execFcBSdoTx node s
  | .fcCSdoRx node => Sys2Proof.Machine.execFcCSdoRx node s
  | .fcDUnknown node => Sys2Proof.Machine.execFcDUnknown node s
  | .fcENmtNodeGuard node => Sys2Proof.Machine.execFcENmtNodeGuard node s
  | .fcFUnknown node => Sys2Proof.Machine.execFcFUnknown node s
  | .nmtStart target => Sys2Proof.Machine.execNmtStart target s
  | .nmtStop target => Sys2Proof.Machine.execNmtStop target s
  | .nmtEnterPreOperational target => Sys2Proof.Machine.execNmtEnterPreOperational target s
  | .nmtResetApplication target => Sys2Proof.Machine.execNmtResetApplication target s
  | .nmtResetCommunication target => Sys2Proof.Machine.execNmtResetCommunication target s
  | .nmtIllegal command => Sys2Proof.Machine.execNmtIllegal command s
  | .sdoRxDownloadSegment o => Sys2Proof.Machine.execSdoRxDownloadSegment o s
  | .sdoRxDownloadInitiate o => Sys2Proof.Machine.execSdoRxDownloadInitiate o s
  | .sdoRxUploadInitiate o => Sys2Proof.Machine.execSdoRxUploadInitiate o s
  | .sdoRxUploadSegment o => Sys2Proof.Machine.execSdoRxUploadSegment o s
  | .sdoRxAbortTransfer o => Sys2Proof.Machine.execSdoRxAbortTransfer o s
  | .sdoRxIllegalA0 => Sys2Proof.Machine.execSdoRxIllegalA0 s
  | .sdoRxBlockDownload o => Sys2Proof.Machine.execSdoRxBlockDownload o s
  | .sdoRxIllegalE0 => Sys2Proof.Machine.execSdoRxIllegalE0 s
  | .sdoTxUploadSegment o => Sys2Proof.Machine.execSdoTxUploadSegment o s
  | .sdoTxDownloadSegment o => Sys2Proof.Machine.execSdoTxDownloadSegment o s
  | .sdoTxUploadInitiate o => Sys2Proof.Machine.execSdoTxUploadInitiate o s
  | .sdoTxDownloadInitiate o => Sys2Proof.Machine.execSdoTxDownloadInitiate o s
  | .sdoTxAbortTransfer o => Sys2Proof.Machine.execSdoTxAbortTransfer o s
  | .sdoTxBlockDownload o => Sys2Proof.Machine.execSdoTxBlockDownload o s
  | .sdoTxIllegalC0 => Sys2Proof.Machine.execSdoTxIllegalC0 s
  | .sdoTxIllegalE0 => Sys2Proof.Machine.execSdoTxIllegalE0 s
  | .abort05030000 => Sys2Proof.Machine.execAbort05030000 s
  | .abort05040000 => Sys2Proof.Machine.execAbort05040000 s
  | .abort05040001 => Sys2Proof.Machine.execAbort05040001 s
  | .abort05040002 => Sys2Proof.Machine.execAbort05040002 s
  | .abort05040003 => Sys2Proof.Machine.execAbort05040003 s
  | .abort05040004 => Sys2Proof.Machine.execAbort05040004 s
  | .abort05040005 => Sys2Proof.Machine.execAbort05040005 s
  | .abort06010000 => Sys2Proof.Machine.execAbort06010000 s
  | .abort06010001 => Sys2Proof.Machine.execAbort06010001 s
  | .abort06010002 => Sys2Proof.Machine.execAbort06010002 s
  | .abort06020000 => Sys2Proof.Machine.execAbort06020000 s
  | .abort06040041 => Sys2Proof.Machine.execAbort06040041 s
  | .abort06040042 => Sys2Proof.Machine.execAbort06040042 s
  | .abort06040043 => Sys2Proof.Machine.execAbort06040043 s
  | .abort06040047 => Sys2Proof.Machine.execAbort06040047 s
  | .abort06060000 => Sys2Proof.Machine.execAbort06060000 s
  | .abort06070010 => Sys2Proof.Machine.execAbort06070010 s
  | .abort06070012 => Sys2Proof.Machine.execAbort06070012 s
  | .abort06070013 => Sys2Proof.Machine.execAbort06070013 s
  | .abort06090011 => Sys2Proof.Machine.execAbort06090011 s
  | .abort06090030 => Sys2Proof.Machine.execAbort06090030 s
  | .abort06090031 => Sys2Proof.Machine.execAbort06090031 s
  | .abort06090032 => Sys2Proof.Machine.execAbort06090032 s
  | .abort06090036 => Sys2Proof.Machine.execAbort06090036 s
  | .abort060A0023 => Sys2Proof.Machine.execAbort060A0023 s
  | .abort08000000 => Sys2Proof.Machine.execAbort08000000 s
  | .abort08000020 => Sys2Proof.Machine.execAbort08000020 s
  | .abort08000021 => Sys2Proof.Machine.execAbort08000021 s
  | .abort08000022 => Sys2Proof.Machine.execAbort08000022 s
  | .abort08000023 => Sys2Proof.Machine.execAbort08000023 s
  | .abort08000024 => Sys2Proof.Machine.execAbort08000024 s

end Sys2Proof.Machine
end

