-- ==== Sys2Proof/Machine/Sampling.lean ====
section
/-! DEFINITION. What a step does around `exec`: presenting the next inputs (R44, R70), answering the query (R48), fetching the rows
the buffer matches (R91), running them, and the outputs sampled too soon (R263). -/

namespace Sys2Proof.Machine

/-- The frame source makes its next presentation; with none left the inputs stay as they are and are by then held
(R260, R263; log entry 6). -/
def present (s : State) : State :=
  match s.pending with
  | [] => { s with dataHeld := true, cvHeld := true }
  | p :: rest =>
    { s with inp := p.ports, dataHeld := p.dataHeld, cvHeld := p.cvHeld, pending := rest }

/-- A free value is read when a path is sampled too soon, and the counter then advances (log entry 9). -/
def nextSeq (s : State) : Nat := if s.dataHeld && s.cvHeld then s.freeSeq else s.freeSeq + 1

/-- R48: the query outputs, independent of the decode path; any value when sampled too soon (R263). -/
def driveQuery (s : State) : State :=
  { s with cv := if s.cvHeld then queryPorts s.build.fcMap s.inp.cvTag else Config.unsettledCv s.freeSeq }

/-- The inputs of a step are on the wires and the query is answered: what stands before the rows run. -/
def ready (s : State) : State :=
  let t := driveQuery (present s)
  { t with freeSeq := nextSeq t }

/-- The rows that the presented buffer matches (R91). -/
def fetchRows (s : State) : List Instr := decodeRows s.build s.inp.inLen (lanes s.inp.inData)

/-- Run rows in order; the first stop ends it. -/
def run : List Instr → State → Result
  | [], s => .next s
  | i :: is, s =>
    match exec i s with
    | .next t => run is t
    | .fault r => .fault r
    | .refused r => .refused r

/-- R263: the decode-path outputs sampled before `T_PD`: any value; `seq` numbers the free value. -/
def sampleEarly (seq : Nat) (s : State) : State := { s with out := Config.unsettledOut seq }

/-- One transition per presented input (R30). -/
def sampleStep (s : State) : Result :=
  let t := ready s
  if t.dataHeld then run (fetchRows t) t else .next (sampleEarly s.freeSeq t)

/-- A 16-byte buffer's bytes on the lanes; a shorter or longer one fills or cuts with 0, for buffers placed by
`withFetchWord` and the test notation only. -/
def packLanes (buf : List Byte) : BitVec 128 := leAssemble 128 (buf.take 16)

/-- The presentation of a buffer, held for `T_PD`. -/
def heldSample (buf : List Byte) (cvTag : BitVec 4) : Sample where
  ports := { inValid := true, inLen := buf.length, inData := packLanes buf, cvTag := cvTag }
  dataHeld := true
  cvHeld := true

/-- The buffer is the next presentation. -/
def placeBuffer (buf : List Byte) (s : State) : State :=
  { s with pending := heldSample buf s.inp.cvTag :: s.pending }

end Sys2Proof.Machine
end

