-- ==== Sys2Proof/Machine/Step.lean ====
section
/-! DEFINITION. One step, and how the host places an instruction where the next step finds it. -/

namespace Sys2Proof.Machine

/-- One step: the next presentation reaches the input ports, and the outputs are sampled (R30, R43, R263). -/
def step (s : State) : Host.Outcome State Fault Refusal := sampleStep s

/-- `s` with the frame in which the table word `w` stands as the next presentation (log entries 6 and 10): the next step
presents it and runs the rows it matches, the word's row among them. -/
def State.withFetchWord (s : State) (nbits w : Nat) : State :=
  match tableFormat nbits w with
  | some f => placeBuffer (tableFrame nbits w f) s
  | none => s

end Sys2Proof.Machine
end

