-- ==== Sys2Proof/Safety.lean ====
section
/-! DEFINITION. What every state of a run of a legal build satisfies: the tables are legal and unchanged, lengths fit their port, and
outputs that were sampled properly are the function of the inputs (R43, R260). -/

namespace Sys2Proof.Machine

/-- R43, R263: held outputs are the function of the input ports: the projection of DECODE (R45, R46), and the reverse
lookup (R48). Outputs sampled too soon are not constrained. -/
def State.Settled (s : State) : Prop :=
  (s.dataHeld = true → s.out = portsOf s.inp.inValid (s.inp.decoded s.build)) ∧
    (s.cvHeld = true → s.cv = queryPorts s.build.fcMap s.inp.cvTag)

/-- The invariant of a legal build (R8, R44, R141, R185, R262). -/
def State.Inv (s : State) : Prop :=
  s.build.Ok ∧ s.inp.fits s.build ∧ (∀ p ∈ s.pending, p.ports.fits s.build) ∧ s.Settled

end Sys2Proof.Machine
end

