-- ==== Sys2Proof/Certificates/Slice0/Obligations.lean ====
section
/-! DEFINITION. The statements for the provers. Each says what the spec's rules say of the block; a statement that rests on
a choice of the model says so and names its log entry. -/

namespace Sys2Proof.Claims

open Sys2Proof.Machine

/-! ### Groups of output ports, for frames -/

/-- The RawFrame and error ports of R45. -/
def rawPorts (o : OutPorts) : Bool × BitVec 3 × BitVec 8 × BitVec 32 × BitVec 8 × BitVec 64 :=
  (o.outValid, o.status, o.errValue, o.id, o.dlc, o.payload)

/-- The identifier ports of R45 but the RTR and ERR flags. -/
def classPorts (o : OutPorts) : Bool × Bool × BitVec 29 × BitVec 11 × BitVec 29 × BitVec 29 :=
  (o.fExt, o.fStd, o.nodeAddr, o.stdAddr, o.extAddr, o.errBits)

/-- The two orthogonal flags. -/
def flagPorts (o : OutPorts) : Bool × Bool := (o.fRtr, o.fErr)

/-- The function-code and node-id ports of R45. -/
def functionPorts (o : OutPorts) : Bool × BitVec 4 × BitVec 4 × BitVec 15 × Bool × BitVec 7 :=
  (o.fcValid, o.fcRaw, o.fcTag, o.role, o.nodeIdValid, o.nodeId)

/-- The NMT ports of R45. -/
def nmtPorts (o : OutPorts) : BitVec 3 × BitVec 8 := (o.nmtCmd, o.nmtTarget)

/-- The SDO ports of R45 but the abort entry. -/
def sdoPorts (o : OutPorts) :
    BitVec 8 × BitVec 3 × Bool × Bool × BitVec 3 × BitVec 16 × BitVec 8 × Bool × BitVec 32 × BitVec 32 :=
  (o.sdoCs, o.sdoTag, o.sdoE, o.sdoS, o.sdoCount, o.sdoIndex, o.sdoSubindex, o.sdoDataValid, o.sdoData, o.sdoAbortCode)

/-- The abort-entry ports of R45. -/
def abortPorts (o : OutPorts) : Bool × BitVec 5 := (o.abortHit, o.abortIdx)

/-- Nothing of the state changed but the decode-path outputs: tables, inputs, query outputs, stimulus and counter are as before. -/
def OnlyOut (s t : State) : Prop := t = { s with out := t.out }

/-- The ports of an error, written out (R46): status, value, `out_valid`, and 0 everywhere else. -/
def errorOut (valid : Bool) (status : BitVec 3) (value : BitVec 8) : OutPorts :=
  { OutPorts.zero with outValid := valid, status := status, errValue := value }

/-- The ports with `dlc` blanked. -/
def blankDlc (o : OutPorts) : OutPorts := { o with dlc := 0 }

/-- The ports with `payload` blanked. -/
def blankPayload (o : OutPorts) : OutPorts := { o with payload := 0 }

/-- The ports with `id` and the RTR and ERR flags blanked. -/
def blankFlags (o : OutPorts) : OutPorts := { o with id := 0, fRtr := false, fErr := false }

/-- The ports with `id`, `ext_addr` and `err_bits` blanked: those that carry bits 28:11 of an identifier verbatim. -/
def blankHigh (o : OutPorts) : OutPorts := { o with id := 0, extAddr := 0, errBits := 0 }

/-! ### The rows of the table by family, with what their rules say of them -/

/-- ID32_STD rows: raw value and row (R141, R142). -/
def functionRows (node : BitVec 7) : List (BitVec 4 × Instr) :=
  [(0x0, .fc0NmtMc node), (0x1, .fc1SyncEmcy node), (0x2, .fc2Timestamp node), (0x3, .fc3Pdo1Tx node),
   (0x4, .fc4Pdo1Rx node), (0x5, .fc5Pdo2Tx node), (0x6, .fc6Pdo2Rx node), (0x7, .fc7Pdo3Tx node),
   (0x8, .fc8Pdo3Rx node), (0x9, .fc9Pdo4Tx node), (0xA, .fcAPdo4Rx node), (0xB, .fcBSdoTx node),
   (0xC, .fcCSdoRx node), (0xD, .fcDUnknown node), (0xE, .fcENmtNodeGuard node), (0xF, .fcFUnknown node)]

/-- ID32_STD rows and the role each is named for (R141, R142). -/
def namedRoles (node : BitVec 7) : List (Instr × FunctionCode) :=
  [(.fc0NmtMc node, .nmtMc), (.fc1SyncEmcy node, .syncEmcy), (.fc2Timestamp node, .timestamp), (.fc3Pdo1Tx node, .pdo1Tx),
   (.fc4Pdo1Rx node, .pdo1Rx), (.fc5Pdo2Tx node, .pdo2Tx), (.fc6Pdo2Rx node, .pdo2Rx), (.fc7Pdo3Tx node, .pdo3Tx),
   (.fc8Pdo3Rx node, .pdo3Rx), (.fc9Pdo4Tx node, .pdo4Tx), (.fcAPdo4Rx node, .pdo4Rx), (.fcBSdoTx node, .sdoTx),
   (.fcCSdoRx node, .sdoRx), (.fcDUnknown node, .unknown), (.fcENmtNodeGuard node, .nmtNodeGuard), (.fcFUnknown node, .unknown)]

/-- NMT command rows: command byte, `nmt_cmd`, row (R160). -/
def nmtCommandRows (target : Byte) : List (Byte × BitVec 3 × Instr) :=
  [(0x01, 0, .nmtStart target), (0x02, 1, .nmtStop target), (0x80, 2, .nmtEnterPreOperational target),
   (0x81, 3, .nmtResetApplication target), (0x82, 4, .nmtResetCommunication target)]

/-- The two initiate rows of each direction: `sub_kind`, command specifier, `sdo_tag`, row (R38, R40, R171). -/
def initiateRows (o : SdoOperands) : List (BitVec 3 × Byte × BitVec 3 × Instr) :=
  [(2, 0x20, 0, .sdoRxDownloadInitiate o), (2, 0x40, 2, .sdoRxUploadInitiate o),
   (3, 0x60, 0, .sdoTxDownloadInitiate o), (3, 0x40, 2, .sdoTxUploadInitiate o)]

/-- The segment and block-download rows of each direction (R171, R186). -/
def segmentRows (o : SdoOperands) : List (BitVec 3 × Byte × BitVec 3 × Instr) :=
  [(2, 0x00, 1, .sdoRxDownloadSegment o), (2, 0x60, 3, .sdoRxUploadSegment o), (2, 0xC0, 5, .sdoRxBlockDownload o),
   (3, 0x00, 3, .sdoTxUploadSegment o), (3, 0x20, 1, .sdoTxDownloadSegment o), (3, 0xA0, 5, .sdoTxBlockDownload o)]

/-- The abort-transfer row of each direction (R171). -/
def abortTransferRows (o : SdoOperands) : List (BitVec 3 × Instr) :=
  [(2, .sdoRxAbortTransfer o), (3, .sdoTxAbortTransfer o)]

/-- The illegal command specifiers of each direction (R96, R172). -/
def illegalSdoRows : List (Byte × Instr) :=
  [(0xA0, .sdoRxIllegalA0), (0xE0, .sdoRxIllegalE0), (0xC0, .sdoTxIllegalC0), (0xE0, .sdoTxIllegalE0)]

/-- The abort-table rows: code and row, in table order (R185). -/
def abortCodeRowsA : List (BitVec 32 × Instr) :=
  [(0x05030000, .abort05030000), (0x05040000, .abort05040000), (0x05040001, .abort05040001),
   (0x05040002, .abort05040002), (0x05040003, .abort05040003), (0x05040004, .abort05040004),
   (0x05040005, .abort05040005), (0x06010000, .abort06010000), (0x06010001, .abort06010001),
   (0x06010002, .abort06010002), (0x06020000, .abort06020000), (0x06040041, .abort06040041),
   (0x06040042, .abort06040042), (0x06040043, .abort06040043), (0x06040047, .abort06040047),
   (0x06060000, .abort06060000)]

def abortCodeRowsB : List (BitVec 32 × Instr) :=
  [(0x06070010, .abort06070010), (0x06070012, .abort06070012), (0x06070013, .abort06070013),
   (0x06090011, .abort06090011), (0x06090030, .abort06090030), (0x06090031, .abort06090031),
   (0x06090032, .abort06090032), (0x06090036, .abort06090036), (0x060A0023, .abort060A0023),
   (0x08000000, .abort08000000), (0x08000020, .abort08000020), (0x08000021, .abort08000021),
   (0x08000022, .abort08000022), (0x08000023, .abort08000023), (0x08000024, .abort08000024)]

def abortCodeRows : List (BitVec 32 × Instr) := abortCodeRowsA ++ abortCodeRowsB

/-- The 32-bit code that the four data bytes of an SDO payload hold (R179). -/
def codeOf (o : SdoOperands) : BitVec 32 := o.d3 ++ o.d2 ++ o.d1 ++ o.d0

/-- What an SDO command row drives whatever its tag (R170 to R172, R176, R177, R179, R203): kind, command specifier, tag,
index, sub-index and abort code; nothing of the RawFrame, the identifier or the function code; no NMT port. -/
def SdoCommon (kind : BitVec 3) (cs : Byte) (tag : BitVec 3) (o : SdoOperands) (s t : State) : Prop :=
  OnlyOut s t ∧ rawPorts t.out = rawPorts s.out ∧ classPorts t.out = classPorts s.out ∧
    flagPorts t.out = flagPorts s.out ∧ functionPorts t.out = functionPorts s.out ∧ nmtPorts t.out = (0, 0) ∧
    t.out.subKind = kind ∧ t.out.sdoCs = cs ∧ t.out.sdoTag = tag ∧ t.out.sdoIndex = o.index ∧
    t.out.sdoSubindex = o.subIndex ∧ t.out.sdoAbortCode = codeOf o

/-- No expedited field (R174, R175, R178 for a tag that is no initiate). -/
def NoExpedited (o : OutPorts) : Prop :=
  o.sdoE = false ∧ o.sdoS = false ∧ o.sdoCount = 0 ∧ o.sdoDataValid = false ∧ o.sdoData = 0

/-- The abort-entry ports show the lookup of `code` in a table (R181): a hit with its position, or a miss. -/
def ShowsLookup (table : List (BitVec 32 × String)) (code : BitVec 32) (o : OutPorts) : Prop :=
  (∀ i, (table[i]?).map Prod.fst = some code → o.abortHit = true ∧ o.abortIdx.toNat = i) ∧
    ((∀ e ∈ table, e.1 ≠ code) → abortPorts o = (false, 0))

/-! ### Buffers -/

/-- The identifier of a buffer (R111). -/
def identOf (buf : List Byte) : Ident := memRead buf 0 4

/-- Two buffers of one length that agree at every offset but the listed ones. -/
def AgreeOff (ks : List Nat) (x y : List Byte) : Prop :=
  x.length = y.length ∧ ∀ k, k ∉ ks → x[k]? = y[k]?

/-- The role of a standard buffer (R140, R142). -/
def roleOf (b : Build) (buf : List Byte) : FunctionCode := resolve b.fcMap ((identOf buf).extractLsb' 7 4)

/-- Payload byte 0 of a buffer, as a number-free reading: the byte at offset 8 is `v`. -/
def FirstPayloadByte (buf : List Byte) (v : Byte) : Prop := buf[8]? = some v

/-- The frame a decode returned, if it returned one. -/
def decodedTo (b : Build) (buf : List Byte) (f : CanOpenFrame) : Prop := decodeBuffer b buf = .ok f

/-- The SDO fields of a frame, in either direction. -/
def sdoFieldsIn (f : CanOpenFrame) : Option SdoFields :=
  match f.subFrame with
  | .sdoRx x | .sdoTx x => some x
  | .unknown _ | .nmtMasterControl _ _ | .pdoOpaque _ => none

/-- A presentation that is sampled when R263 allows it, decode path and query. -/
def Held (p : Sample) : Prop := p.dataHeld = true ∧ p.cvHeld = true

/-- `k` steps one after the other. -/
def afterSteps : Nat → State → Result
  | 0, s => .next s
  | k + 1, s =>
    match step s with
    | .next t => afterSteps k t
    | .fault r => .fault r
    | .refused r => .refused r

/-- What a held presentation makes of the outputs under a build (R43). -/
def ShowsResult (b : Build) (p : Sample) (t : State) : Prop :=
  t.out = portsOf p.ports.inValid (p.ports.decoded b) ∧ t.cv = queryPorts b.fcMap p.ports.cvTag

end Sys2Proof.Claims

open Sys2Proof Sys2Proof.Machine Sys2Proof.Claims

/-! ### Encoding -/

/-- Every well-formed row is read back from its own field, with every operand at every value (R80 to R87). -/
def Obligations.DecodeOfEncodeIsTheRow : Prop :=
  ∀ i : Instr, i.wf = true → decode i.format (encode i) = .ok i

/-- The decoder gives only well-formed rows of the format it was asked for (R92). -/
def Obligations.DecodedRowIsWellFormedInItsFormat : Prop :=
  ∀ (f : Format) (bytes : List Byte) (i : Instr), decode f bytes = .ok i → i.wf = true ∧ i.format = f

/-- Identifiers, legal NMT and SDO fields and abort codes are encoded back whole; a PARSE row keeps every byte but the padding
(R93); a function-code row keeps the low 11 bits, which are all it reads (R83). That the encoder writes 0 in bits 30:11 of a
function-code word is the model's choice (log entry 11): R93 lists bits 28:11 as ignored, and bits 30 and 29 are the RTR and
ERR flags, which have rows of their own. -/
def Obligations.EncodeOfDecodeKeepsEveryReadBit : Prop :=
  (∀ f ∈ [Format.id32Class, .id32Rtr, .id32Err, .abort32], ∀ bytes i, decode f bytes = .ok i → encode i = bytes) ∧
  (∀ bytes i, decode .id32Std bytes = .ok i → encode i = leBytes 4 (leAssemble 32 bytes &&& 0x7FF)) ∧
  (∀ b0 b1 i, decode .nmtB0 [b0, b1] = .ok i → i ≠ .nmtIllegal b0 → encode i = [b0, b1]) ∧
  (∀ f ∈ [Format.sdoB0Rx, .sdoB0Tx], ∀ bytes i, decode f bytes = .ok i →
    (∀ e ∈ illegalSdoRows, i ≠ e.2) → encode i = bytes) ∧
  (∀ bytes i, bytes.length = 16 → decode .frameLen bytes = .ok i → AgreeOff [5, 6, 7] (encode i) bytes)

/-- Words written out from the tables decode to the rows they stand for: identifier 0x80000602 (R121), 0x00000602 (R141), command
0x81 with target 5 (R160), SDO byte 0x23 in both directions (R171), abort code 0x06020000 (R182). -/
def Obligations.SampleWordsDecodeToTheirRows : Prop :=
  decode .id32Class [0x02, 0x06, 0x00, 0x80] = .ok (.isExtended false false 0x602) ∧
  decode .id32Std [0x02, 0x06, 0x00, 0x00] = .ok (.fcCSdoRx 0x02) ∧
  decode .nmtB0 [0x81, 0x05] = .ok (.nmtResetApplication 0x05) ∧
  decode .sdoB0Rx [0x23, 0x00, 0x10, 0x00, 1, 2, 3, 4] = .ok (.sdoRxDownloadInitiate ⟨0x03, 0x1000, 0, 1, 2, 3, 4⟩) ∧
  decode .sdoB0Tx [0x23, 0x00, 0x10, 0x00, 1, 2, 3, 4] = .ok (.sdoTxDownloadSegment ⟨0x03, 0x1000, 0, 1, 2, 3, 4⟩) ∧
  decode .abort32 [0x00, 0x00, 0x02, 0x06] = .ok .abort06020000

/-- R98: every value of a field is mapped, a fallback or illegal, by name: each NMT byte, each SDO payload in each direction, each
identifier, and the function code of each standard identifier has its row. -/
def Obligations.EveryFieldValueHasItsRow : Prop :=
  (∀ b0 b1 : Byte, ∃ i, decode .nmtB0 [b0, b1] = .ok i) ∧
  (∀ p : Payload, (∃ i, decode .sdoB0Rx p.bytes = .ok i) ∧ (∃ i, decode .sdoB0Tx p.bytes = .ok i)) ∧
  (∀ id : Ident, (∃ i, decode .id32Class (leBytes 4 id) = .ok i) ∧
    (isStandard id = true → ∃ e ∈ functionRows (id.extractLsb' 0 7),
      e.1 = id.extractLsb' 7 4 ∧ decode .id32Std (leBytes 4 id) = .ok e.2))

/-! ### The slicer -/

/-- R110 to R112, R114: PARSE fails exactly when the length is not 16; otherwise the identifier is bytes 0 to 3, little-endian, the
declared length byte 4, and payload byte k buffer byte 8 + k. -/
def Obligations.ParseCutsEveryField : Prop :=
  ∀ buf : List Byte, (parseFrame buf = .error .invalidFrameLength ↔ buf.length ≠ 16) ∧
    (buf.length = 16 → ∃ raw, parseFrame buf = .ok raw ∧
      (∀ k, k < 4 → buf[k]? = some (raw.identifier.extractLsb' (8 * k) 8)) ∧
      buf[4]? = some raw.declaredLength ∧ ∀ k, k < 8 → buf[8 + k]? = raw.payload.bytes[k]?)

/-- The decoder's FRAME_LEN rows and PARSE agree on every buffer: the row PARSE with the parsed fields as its operands, or the row
INVALID_FRAME_LENGTH (R92, R110). -/
def Obligations.FrameRowsAgreeWithParse : Prop :=
  ∀ buf : List Byte,
    (∀ raw, parseFrame buf = .ok raw ↔ decode .frameLen buf = .ok (.parse raw.identifier raw.declaredLength raw.payload)) ∧
    ((∃ e, parseFrame buf = .error e) ↔ decode .frameLen buf = .ok (.invalidFrameLength buf.length))

/-- The PARSE row: its three fields reach their ports, payload byte k on bits 8k+7:8k (R45, R114), every other port but
`out_valid` is 0, nothing else changes. -/
def Obligations.ParseRowDrivesTheRawFramePorts : Prop :=
  ∀ (id : Ident) (dlc : Byte) (p : Payload) (s : State), ∃ t, exec (.parse id dlc p) s = .next t ∧ OnlyOut s t ∧
    t.out.id = id ∧ t.out.dlc = dlc ∧ (∀ k, k < 8 → p.bytes[k]? = some (t.out.payload.extractLsb' (8 * k) 8)) ∧
    t.out = { OutPorts.zero with
      outValid := s.inp.inValid, id := t.out.id, dlc := t.out.dlc, payload := t.out.payload }

/-- The INVALID_FRAME_LENGTH row: status 1, value 0, nothing of a frame (R110, R116, R230, R231). -/
def Obligations.InvalidLengthRowRaises : Prop :=
  ∀ (len : Nat) (s : State), ∃ t, exec (.invalidFrameLength len) s = .next t ∧ OnlyOut s t ∧
    t.out = errorOut s.inp.inValid 1 0

/-- R113: the padding bytes reach no row and no result. -/
def Obligations.PaddingBytesReachNothing : Prop :=
  ∀ (b : Build) (x y : List Byte), AgreeOff [5, 6, 7] x y →
    decodeBuffer b x = decodeBuffer b y ∧ decodeRows b x.length x = decodeRows b y.length y

/-- R68, R115, R163: the declared length reaches the `dlc` port unchanged and decides nothing else. -/
def Obligations.DeclaredLengthOnlyReachesDlc : Prop :=
  ∀ (b : Build) (v : Bool) (x y : List Byte), AgreeOff [4] x y →
    blankDlc (portsOf v (decodeBuffer b x)) = blankDlc (portsOf v (decodeBuffer b y)) ∧
    (∀ f d, decodedTo b x f → x[4]? = some d →
      f.raw.declaredLength = d ∧ (portsOf v (decodeBuffer b x)).dlc = d)

/-! ### The identifier classifier -/

/-- R120 to R124: each flag test reads its own bit and no other, and its port shows it for every decoded frame. -/
def Obligations.FlagTestsReadTheirOwnBit : Prop :=
  (∀ id : Ident, isExtended id = id.getLsbD 31 ∧ isStandard id = !id.getLsbD 31 ∧
    isRemoteRequest id = id.getLsbD 30 ∧ isErrorFrame id = id.getLsbD 29) ∧
  (∀ (b : Build) (v : Bool) (buf : List Byte) (f : CanOpenFrame), decodedTo b buf f →
    let o := portsOf v (decodeBuffer b buf)
    let id := identOf buf
    o.fExt = id.getLsbD 31 ∧ o.fStd = !id.getLsbD 31 ∧ o.fRtr = id.getLsbD 30 ∧ o.fErr = id.getLsbD 29)

/-- R125 to R128: the masked addresses are the low bits of the identifier, and the generic node address takes the width of its class;
their ports show them for every decoded frame. -/
def Obligations.AddressesAreTheMaskedLowBits : Prop :=
  (∀ id : Ident, stdAddress id = id.extractLsb' 0 11 ∧ extAddress id = id.extractLsb' 0 29 ∧
    errBits id = id.extractLsb' 0 29 ∧
    nodeAddress id = (if id.getLsbD 31 then id.extractLsb' 0 29 else (id.extractLsb' 0 11).setWidth 29)) ∧
  (∀ (b : Build) (v : Bool) (buf : List Byte) (f : CanOpenFrame), decodedTo b buf f →
    let o := portsOf v (decodeBuffer b buf)
    let id := identOf buf
    o.stdAddr = id.extractLsb' 0 11 ∧ o.extAddr = id.extractLsb' 0 29 ∧ o.errBits = id.extractLsb' 0 29 ∧
      o.nodeAddr = (if id.getLsbD 31 then id.extractLsb' 0 29 else (id.extractLsb' 0 11).setWidth 29))

/-- R131: for a standard identifier the CANopen node id is the low 7 bits of the node address; so are the ports `node_id` and
`node_addr` of a decoded standard frame. -/
def Obligations.NodeIdIsLowBitsOfNodeAddress : Prop :=
  (∀ id : Ident, isStandard id = true → canopenNodeId id = (nodeAddress id).extractLsb' 0 7) ∧
  (∀ (b : Build) (v : Bool) (buf : List Byte) (f : CanOpenFrame), decodedTo b buf f → isStandard (identOf buf) = true →
    (portsOf v (decodeBuffer b buf)).nodeId = (portsOf v (decodeBuffer b buf)).nodeAddr.extractLsb' 0 7)

/-- The class rows drive the flags and addresses of their identifier; an extended one also has no function code, no node id and an
Unknown sub-frame (R121, R122, R125 to R128, R202). The RawFrame ports and the RTR and ERR flags stay. -/
def Obligations.ClassRowsDriveTheIdentifierPorts : Prop :=
  ∀ (rtr err : Bool) (addr : BitVec 29) (s : State),
    (∃ t, exec (.isExtended rtr err addr) s = .next t ∧ OnlyOut s t ∧
      (let id := idWord true rtr err addr
       classPorts t.out = (true, false, nodeAddress id, stdAddress id, extAddress id, errBits id)) ∧
      functionPorts t.out = functionPorts OutPorts.zero ∧ t.out.subKind = 0 ∧ nmtPorts t.out = nmtPorts OutPorts.zero ∧
      sdoPorts t.out = sdoPorts OutPorts.zero ∧ abortPorts t.out = abortPorts OutPorts.zero ∧
      rawPorts t.out = rawPorts s.out ∧ flagPorts t.out = flagPorts s.out) ∧
    (∃ t, exec (.isStandard rtr err addr) s = .next t ∧ OnlyOut s t ∧
      (let id := idWord false rtr err addr
       classPorts t.out = (false, true, nodeAddress id, stdAddress id, extAddress id, errBits id)) ∧
      functionPorts t.out = functionPorts s.out ∧ t.out.subKind = s.out.subKind ∧ nmtPorts t.out = nmtPorts s.out ∧
      sdoPorts t.out = sdoPorts s.out ∧ abortPorts t.out = abortPorts s.out ∧
      rawPorts t.out = rawPorts s.out ∧ flagPorts t.out = flagPorts s.out)

/-- The RTR and ERR rows set their flag and change nothing else (R123, R124, R204). -/
def Obligations.FlagRowsSetOnlyTheirFlag : Prop :=
  ∀ (a b : Bool) (addr : BitVec 29) (s : State),
    exec (.isRemoteRequest a b addr) s = .next { s with out := { s.out with fRtr := true } } ∧
    exec (.isErrorFrame a b addr) s = .next { s with out := { s.out with fErr := true } }

/-- R204: bits 30 and 29 of a standard identifier change only `f_rtr`, `f_err` and `id` (and `err_value` and the rest not at all). -/
def Obligations.RtrAndErrTakeNoPartInDispatch : Prop :=
  ∀ (b : Build) (v : Bool) (x y : List Byte), AgreeOff [0, 1, 2, 3] x y → isStandard (identOf x) = true →
    identOf x &&& 0x9FFFFFFF = identOf y &&& 0x9FFFFFFF →
    blankFlags (portsOf v (decodeBuffer b x)) = blankFlags (portsOf v (decodeBuffer b y))

/-- R83, R93: bits 28:11 of a standard identifier change only the ports that carry them verbatim. -/
def Obligations.HighStandardBitsAreIgnored : Prop :=
  ∀ (b : Build) (v : Bool) (x y : List Byte), AgreeOff [0, 1, 2, 3] x y → isStandard (identOf x) = true →
    identOf x &&& 0xE00007FF = identOf y &&& 0xE00007FF →
    blankHigh (portsOf v (decodeBuffer b x)) = blankHigh (portsOf v (decodeBuffer b y))

/-- R93, R208: payload bytes 2 to 7 of an NMT frame, bit 4 of SDO byte 0, and bits 4:0 of it in a frame that is no initiate, change only the
`payload` port. -/
def Obligations.UnreadPayloadBitsAreIgnored : Prop :=
  ∀ (b : Build) (v : Bool) (x y : List Byte), isStandard (identOf x) = true →
    (roleOf b x = .nmtMc → AgreeOff [10, 11, 12, 13, 14, 15] x y →
      blankPayload (portsOf v (decodeBuffer b x)) = blankPayload (portsOf v (decodeBuffer b y))) ∧
    (∀ a c : Byte, FirstPayloadByte x a → FirstPayloadByte y c → AgreeOff [8] x y →
      roleOf b x = .sdoRx ∨ roleOf b x = .sdoTx →
      (a &&& 0xEF = c &&& 0xEF ∨ (a &&& 0xE0 = c &&& 0xE0 ∧
        (roleOf b x = .sdoRx → a &&& 0xE0 ∉ [0x20#8, 0x40]) ∧ (roleOf b x = .sdoTx → a &&& 0xE0 ∉ [0x60#8, 0x40]))) →
      blankPayload (portsOf v (decodeBuffer b x)) = blankPayload (portsOf v (decodeBuffer b y)))

/-! ### Function codes -/

/-- R140, R144: the raw function code is bits 10:7 and the node id bits 6:0, and their ports show them, valid, for every decoded
standard frame. -/
def Obligations.FunctionCodeAndNodeIdFields : Prop :=
  (∀ id : Ident, fcRaw id = id.extractLsb' 7 4 ∧ canopenNodeId id = id.extractLsb' 0 7) ∧
  (∀ (b : Build) (v : Bool) (buf : List Byte) (f : CanOpenFrame), decodedTo b buf f → isStandard (identOf buf) = true →
    let o := portsOf v (decodeBuffer b buf)
    o.fcValid = true ∧ o.fcRaw = (identOf buf).extractLsb' 7 4 ∧
      o.nodeIdValid = true ∧ o.nodeId = (identOf buf).extractLsb' 0 7)

/-- The sixteen function-code rows: valid bits, raw value, the tag of the role that `FC_MAP` gives it, the one role bit, the node id;
the sub-frame of a role without structured payload (R203); the ports of the RawFrame and identifier stay. -/
def Obligations.FunctionRowsDriveRoleNodeAndSubFrame : Prop :=
  ∀ (node : BitVec 7) (s : State), ∀ e ∈ functionRows node, ∃ t, exec e.2 s = .next t ∧ OnlyOut s t ∧
    (let role := resolve s.build.fcMap e.1
     t.out.fcValid = true ∧ t.out.fcRaw = e.1 ∧ t.out.fcTag = role.tag ∧
     (∀ k, k < 15 → t.out.role.getLsbD k = decide (k = role.tag.toNat)) ∧
     t.out.nodeIdValid = true ∧ t.out.nodeId = node ∧
     (role ∈ [FunctionCode.pdo1Tx, .pdo1Rx, .pdo2Tx, .pdo2Rx, .pdo3Tx, .pdo3Rx, .pdo4Tx, .pdo4Rx] → t.out.subKind = 4) ∧
     (role ∈ [FunctionCode.syncEmcy, .timestamp, .nmtNodeGuard, .unknown] → t.out.subKind = 0) ∧
     (if role ∈ [FunctionCode.nmtMc, .sdoRx, .sdoTx] then
        t.out.subKind = s.out.subKind ∧ nmtPorts t.out = nmtPorts s.out ∧ sdoPorts t.out = sdoPorts s.out ∧
          abortPorts t.out = abortPorts s.out
      else nmtPorts t.out = nmtPorts OutPorts.zero ∧ sdoPorts t.out = sdoPorts OutPorts.zero ∧
          abortPorts t.out = abortPorts OutPorts.zero)) ∧
    rawPorts t.out = rawPorts s.out ∧ classPorts t.out = classPorts s.out ∧ flagPorts t.out = flagPorts s.out

/-- R141, R142: under every legal table the document's three entries hold, a raw value resolves to the role of its entry, and one with
no entry to UNKNOWN; the tag and the one role bit of a decoded standard frame are those of the resolved role. -/
def Obligations.ResolveFollowsTheTable : Prop :=
  ∀ b : Build, FcMapOk b.fcMap →
    resolve b.fcMap 0x0 = .nmtMc ∧ resolve b.fcMap 0x1 = .syncEmcy ∧ resolve b.fcMap 0xC = .sdoRx ∧
    (∀ raw role, (raw, role) ∈ b.fcMap → resolve b.fcMap raw = role) ∧
    (∀ raw, (∀ e ∈ b.fcMap, e.1 ≠ raw) → resolve b.fcMap raw = .unknown) ∧
    (∀ (v : Bool) (buf : List Byte) (f : CanOpenFrame), decodedTo b buf f → isStandard (identOf buf) = true →
      let o := portsOf v (decodeBuffer b buf)
      let role := resolve b.fcMap ((identOf buf).extractLsb' 7 4)
      f.functionCode = some role ∧ o.fcTag = role.tag ∧ ∀ k, k < 15 → o.role.getLsbD k = decide (k = role.tag.toNat))

/-- Under the default `FC_MAP` every function-code row has the role of its name: its tag on `fc_tag` and that one bit on `role`
(R141, R142, R45). It rests on the default table, of which the document fixes three entries (log entry 3). -/
def Obligations.DefaultMapGivesEachRowTheRoleOfItsName : Prop :=
  ∀ (node : BitVec 7) (s : State), s.build.fcMap = fcMapDefault → ∀ e ∈ namedRoles node,
    ∃ t, exec e.1 s = .next t ∧ t.out.fcTag = e.2.tag ∧ t.out.role = roleBits (some e.2) ∧ t.out.fcValid = true

/-- R146: resolving the code value of a role gives the role, and the other way round, under every legal table. -/
def Obligations.ResolveAndCodeValueRoundTrip : Prop :=
  ∀ m : List (BitVec 4 × FunctionCode), FcMapOk m →
    (∀ (r : FunctionCode) (v : BitVec 4), codeValue m r.tag = some v → resolve m v = r) ∧
    (∀ v : BitVec 4, resolve m v ≠ .unknown → codeValue m (resolve m v).tag = some v)

/-- R145, R48, R97: the query outputs of a held `cv_tag`: the raw value of the role with that tag, or nothing; nothing for UNKNOWN
(14) and the reserved tag 15. -/
def Obligations.QueryPortsAnswerTheReverseLookup : Prop :=
  ∀ (s t : State) (p : Sample) (rest : List Sample), s.pending = p :: rest → p.cvHeld = true → FcMapOk s.build.fcMap →
    step s = .next t →
    (∀ raw role, (raw, role) ∈ s.build.fcMap → role.tag = p.ports.cvTag → t.cv = { cvValid := true, cvValue := raw }) ∧
    ((∀ e ∈ s.build.fcMap, e.2.tag ≠ p.ports.cvTag) → t.cv = { cvValid := false, cvValue := 0 }) ∧
    (p.ports.cvTag = 14 ∨ p.ports.cvTag = 15 → t.cv.cvValid = false)

/-- R143: raw 0x1 is SYNC_EMCY for every node id, and such a frame is both a sync and an emergency frame. -/
def Obligations.SyncAndEmergencyAreOneRole : Prop :=
  ∀ (b : Build) (buf : List Byte) (f : CanOpenFrame), FcMapOk b.fcMap → decodedTo b buf f →
    isStandard (identOf buf) = true → (identOf buf).extractLsb' 7 4 = 0x1 →
    f.functionCode = some .syncEmcy ∧ f.isSync = true ∧ f.isEmergency = true ∧
      f.nodeId = some ((identOf buf).extractLsb' 0 7)

/-- R205: the role port of a decoded frame has bit t set exactly when the predicate of the role with tag t is true; at most one bit
is set, and none for an extended frame or on an error. -/
def Obligations.RolePortShowsThePredicates : Prop :=
  (∀ (b : Build) (v : Bool) (buf : List Byte) (e : DecodeError), decodeBuffer b buf = .error e →
    (portsOf v (decodeBuffer b buf)).role = 0) ∧
  ∀ (b : Build) (v : Bool) (buf : List Byte) (f : CanOpenFrame), decodedTo b buf f →
    let o := portsOf v (decodeBuffer b buf)
    (isExtended (identOf buf) = true → o.role = 0) ∧
    (List.range 15).map o.role.getLsbD =
      [f.isNmtMasterControl, f.isSync, f.isTimestamp, f.isPdo1Tx, f.isPdo1Rx, f.isPdo2Tx, f.isPdo2Rx, f.isPdo3Tx,
       f.isPdo3Rx, f.isPdo4Tx, f.isPdo4Rx, f.isSdoTx, f.isSdoRx, f.isNmtNodeGuard, f.isUnknownFunction] ∧
    f.isEmergency = f.isSync ∧
    (o.fExt, o.fStd, o.fRtr, o.fErr) =
      (f.isExtendedFrame, f.isStandardFrame, f.isRemoteRequestFrame, f.isErrorFlagFrame) ∧
    (∀ j k, o.role.getLsbD j = true → o.role.getLsbD k = true → j = k)

/-! ### NMT -/

/-- The five NMT command rows: kind 1, the command's code, the target byte unchanged (R160 to R162); every other sub-frame port 0; the
other ports stay. The decoder gives the row by the command byte. -/
def Obligations.NmtRowsDriveCommandAndTarget : Prop :=
  ∀ (target : Byte) (s : State), ∀ e ∈ nmtCommandRows target,
    decode .nmtB0 [e.1, target] = .ok e.2.2 ∧
    ∃ t, exec e.2.2 s = .next t ∧ OnlyOut s t ∧ t.out.subKind = 1 ∧ nmtPorts t.out = (e.2.1, target) ∧
      sdoPorts t.out = sdoPorts OutPorts.zero ∧ abortPorts t.out = abortPorts OutPorts.zero ∧
      rawPorts t.out = rawPorts s.out ∧ classPorts t.out = classPorts s.out ∧ flagPorts t.out = flagPorts s.out ∧
      functionPorts t.out = functionPorts s.out

/-- The illegal NMT row (R95, R161, R231): every byte outside the table, with status 3 and the whole byte. -/
def Obligations.IllegalNmtCommandRaisesWithTheByte : Prop :=
  ∀ (c target : Byte) (s : State), c ∉ [0x01#8, 0x02, 0x80, 0x81, 0x82] →
    decode .nmtB0 [c, target] = .ok (.nmtIllegal c) ∧
    ∃ t, exec (.nmtIllegal c) s = .next t ∧ OnlyOut s t ∧ t.out = errorOut s.inp.inValid 3 c

/-! ### SDO -/

/-- The initiate rows of both directions: e, s from bits 1 and 0; count 4 - n; the first `count` data bytes on their lanes when
expedited, every other lane 0 (R174, R175, R178); no abort entry (R180). -/
def Obligations.InitiateRowsDriveTheExpeditedFields : Prop :=
  ∀ (o : SdoOperands) (s : State), ∀ e ∈ initiateRows o, ∃ t, exec e.2.2.2 s = .next t ∧
    SdoCommon e.1 e.2.1 e.2.2.1 o s t ∧
    (let n := (o.low.extractLsb' 2 2).toNat
     t.out.sdoE = o.low.getLsbD 1 ∧ t.out.sdoS = o.low.getLsbD 0 ∧ t.out.sdoCount.toNat = 4 - n ∧
     t.out.sdoDataValid = o.low.getLsbD 1 ∧
     (∀ k d, [o.d0, o.d1, o.d2, o.d3][k]? = some d →
       t.out.sdoData.extractLsb' (8 * k) 8 = if o.low.getLsbD 1 = true ∧ k < 4 - n then d else 0)) ∧
    abortPorts t.out = (false, 0)

/-- The segment and block-download rows of both directions: the tag and the slices, no expedited field whatever bits 4:0 hold, no
abort entry (R174, R175, R180, R186). -/
def Obligations.SegmentRowsDriveNoExpeditedField : Prop :=
  ∀ (o : SdoOperands) (s : State), ∀ e ∈ segmentRows o, ∃ t, exec e.2.2.2 s = .next t ∧
    SdoCommon e.1 e.2.1 e.2.2.1 o s t ∧ NoExpedited t.out ∧ abortPorts t.out = (false, 0)

/-- The abort-transfer rows of both directions: no expedited field, and the lookup of the code in the table (R180, R181). -/
def Obligations.AbortTransferRowsLookUpTheCode : Prop :=
  ∀ (o : SdoOperands) (s : State), AbortTableOk s.build.abortTable → ∀ e ∈ abortTransferRows o,
    ∃ t, exec e.2 s = .next t ∧ SdoCommon e.1 0x80 4 o s t ∧ NoExpedited t.out ∧
      ShowsLookup s.build.abortTable (codeOf o) t.out

/-- The four illegal SDO rows (R96, R172, R231): status 4 and the command specifier, nothing of a frame. -/
def Obligations.IllegalSdoCommandRaisesWithCs : Prop :=
  ∀ s : State, ∀ e ∈ illegalSdoRows, ∃ t, exec e.2 s = .next t ∧ OnlyOut s t ∧
    t.out = errorOut s.inp.inValid 4 e.1

/-- R171, R172: the tag of a command specifier by direction; the same value gives different tags, and the entries that are missing
are errors carrying the masked byte. -/
def Obligations.SdoTagsByDirection : Prop :=
  ∀ (b : Build) (p : Payload),
    (match sdoDecode b .rx p with
     | .ok f => (sdoCs p.p0, f.tag) ∈ [(0x00#8, SdoTag.downloadSegment), (0x20, .downloadInitiate), (0x40, .uploadInitiate),
         (0x60, .uploadSegment), (0x80, .abortTransfer), (0xC0, .blockDownload)]
     | .error e => e = .unknownSdoCommand (p.p0 &&& 0xE0) ∧ (p.p0 &&& 0xE0 = 0xA0 ∨ p.p0 &&& 0xE0 = 0xE0)) ∧
    (match sdoDecode b .tx p with
     | .ok f => (sdoCs p.p0, f.tag) ∈ [(0x00#8, SdoTag.uploadSegment), (0x20, .downloadSegment), (0x40, .uploadInitiate),
         (0x60, .downloadInitiate), (0x80, .abortTransfer), (0xA0, .blockDownload)]
     | .error e => e = .unknownSdoCommand (p.p0 &&& 0xE0) ∧ (p.p0 &&& 0xE0 = 0xC0 ∨ p.p0 &&& 0xE0 = 0xE0))

/-- R188: whenever a decoded frame is expedited, the count is 1 to 4 and the data holds exactly that many bytes. -/
def Obligations.ExpeditedCountMatchesTheData : Prop :=
  ∀ (b : Build) (buf : List Byte) (f : CanOpenFrame) (x : SdoFields), decodedTo b buf f → sdoFieldsIn f = some x →
    x.expedited = true → 1 ≤ x.expeditedByteCount.toNat ∧ x.expeditedByteCount.toNat ≤ 4 ∧
      ∃ d, x.expeditedData = some d ∧ d.length = x.expeditedByteCount.toNat

/-- R184: an initiate frame that is not expedited carries no data and still reports the size flag; no size is decoded, and the
count is 4 - n all the same (R175). -/
def Obligations.SegmentedInitiateCarriesNoData : Prop :=
  ∀ (b : Build) (buf : List Byte) (f : CanOpenFrame) (x : SdoFields) (b0 : Byte), decodedTo b buf f →
    sdoFieldsIn f = some x → FirstPayloadByte buf b0 → x.tag = .downloadInitiate ∨ x.tag = .uploadInitiate →
    b0.getLsbD 1 = false →
    x.expedited = false ∧ x.expeditedData = none ∧ x.sizeIndicated = b0.getLsbD 0 ∧
      x.expeditedByteCount.toNat = 4 - (b0.extractLsb' 2 2).toNat

/-- R64: expedited data byte k is bits 8k+7:8k of the abort code. -/
def Obligations.ExpeditedBytesOverlapTheAbortCode : Prop :=
  ∀ (b : Build) (buf : List Byte) (f : CanOpenFrame) (x : SdoFields) (d : List Byte) (k : Nat) (v : Byte),
    decodedTo b buf f → sdoFieldsIn f = some x → x.expeditedData = some d → d[k]? = some v →
    v = x.abortCode.extractLsb' (8 * k) 8

/-! ### Abort codes -/

/-- R181: a lookup in a legal table gives exactly the position of the code, on all 32 bits, and the abort-entry ports of a decoded
abort transfer show it. -/
def Obligations.AbortLookupIsExact : Prop :=
  (∀ (t : List (BitVec 32 × String)) (code : BitVec 32), AbortTableOk t →
    (∀ i, abortLookup t code = some i ↔ (t[i]?).map Prod.fst = some code) ∧
    (abortLookup t code = none ↔ ∀ e ∈ t, e.1 ≠ code)) ∧
  (∀ (b : Build) (v : Bool) (buf : List Byte) (f : CanOpenFrame) (x : SdoFields), AbortTableOk b.abortTable →
    decodedTo b buf f → sdoFieldsIn f = some x → x.tag = .abortTransfer →
    ShowsLookup b.abortTable x.abortCode (portsOf v (decodeBuffer b buf)))

/-- R182: under every legal table the two document codes hit, with the document's texts. -/
def Obligations.DocumentAbortEntriesAlwaysHit : Prop :=
  ∀ t : List (BitVec 32 × String), AbortTableOk t →
    ((abortLookup t 0x05030000).bind (abortMessage t) = some "Toggle bit not alternated") ∧
    ((abortLookup t 0x06020000).bind (abortMessage t) = some "Object does not exist in the Object Dictionary")

/-- The 31 abort-table rows: the lookup of the row's code, and nothing else (R181). -/
def Obligations.AbortRowsLookUpTheirCode : Prop :=
  ∀ s : State, AbortTableOk s.build.abortTable → ∀ e ∈ abortCodeRows,
    decode .abort32 (leBytes 4 e.1) = .ok e.2 ∧
    ∃ t, exec e.2 s = .next t ∧ t = { s with out := { s.out with abortHit := t.out.abortHit, abortIdx := t.out.abortIdx } } ∧
      ShowsLookup s.build.abortTable e.1 t.out

/-- R185 under the default table (its 29 entries beside the document's two are the default of a parameter, log entry 4): the k-th row
hits at index k. -/
def Obligations.DefaultTableHitsEveryRowAtItsIndex : Prop :=
  ∀ s : State, s.build.abortTable = abortTableDefault → ∀ k e, abortCodeRows[k]? = some e →
    ∃ t, exec e.2 s = .next t ∧ t.out.abortHit = true ∧ t.out.abortIdx.toNat = k

/-- R234: a standard SDO frame that is an abort transfer, of a code the table lacks, decodes, with no abort entry and no hit. -/
def Obligations.AbortTableMissIsNoError : Prop :=
  ∀ (b : Build) (v : Bool) (buf : List Byte) (b0 : Byte), buf.length = 16 → isStandard (identOf buf) = true →
    roleOf b buf = .sdoRx ∨ roleOf b buf = .sdoTx → FirstPayloadByte buf b0 → b0 &&& 0xE0 = 0x80 →
    (∀ e ∈ b.abortTable, e.1 ≠ memRead buf 12 4) →
    ∃ f x, decodedTo b buf f ∧ sdoFieldsIn f = some x ∧ x.tag = .abortTransfer ∧ x.abortEntry = none ∧
      (portsOf v (decodeBuffer b buf)).status = 0 ∧ (portsOf v (decodeBuffer b buf)).abortHit = false

/-- R180: the table is consulted only for an abort transfer. -/
def Obligations.OnlyAbortTransferHasAnEntry : Prop :=
  ∀ (b : Build) (dir : Direction) (p : Payload) (x : SdoFields), sdoDecode b dir p = .ok x →
    x.abortEntry = if x.tag = .abortTransfer then abortLookup b.abortTable x.abortCode else none

/-! ### The composition -/

/-- R91: the decode map, in order, on a buffer of any length, by the bits of the identifier and the bytes of the payload. -/
def Obligations.DecodeFollowsTheMap : Prop :=
  ∀ (b : Build) (buf : List Byte),
    (buf.length ≠ 16 → decodeBuffer b buf = .error .invalidFrameLength) ∧
    (∀ raw, parseFrame buf = .ok raw →
      (raw.identifier.getLsbD 31 = true → decodeBuffer b buf =
        .ok { raw := raw, functionCode := none, nodeId := none, subFrame := .unknown raw.payload }) ∧
      (raw.identifier.getLsbD 31 = false →
        let role := resolve b.fcMap (raw.identifier.extractLsb' 7 4)
        let frame (sub : SubFrame) : Except DecodeError CanOpenFrame := .ok
          { raw := raw, functionCode := some role, nodeId := some (raw.identifier.extractLsb' 0 7), subFrame := sub }
        let p := raw.payload
        (role = .nmtMc → p.p0 ∉ [0x01#8, 0x02, 0x80, 0x81, 0x82] → decodeBuffer b buf = .error (.unknownNmtCommand p.p0)) ∧
        (role = .nmtMc → ∀ c, (p.p0, c) ∈ nmtTable → decodeBuffer b buf = frame (.nmtMasterControl c p.p1)) ∧
        (role = .sdoRx → p.p0 &&& 0xE0 ∈ [0xA0#8, 0xE0] →
          decodeBuffer b buf = .error (.unknownSdoCommand (p.p0 &&& 0xE0))) ∧
        (role = .sdoRx → ∀ x, sdoDecode b .rx p = .ok x → decodeBuffer b buf = frame (.sdoRx x)) ∧
        (role = .sdoTx → p.p0 &&& 0xE0 ∈ [0xC0#8, 0xE0] →
          decodeBuffer b buf = .error (.unknownSdoCommand (p.p0 &&& 0xE0))) ∧
        (role = .sdoTx → ∀ x, sdoDecode b .tx p = .ok x → decodeBuffer b buf = frame (.sdoTx x)) ∧
        (role ∈ [FunctionCode.pdo1Tx, .pdo1Rx, .pdo2Tx, .pdo2Rx, .pdo3Tx, .pdo3Rx, .pdo4Tx, .pdo4Rx] →
          decodeBuffer b buf = frame (.pdoOpaque p)) ∧
        (role ∈ [FunctionCode.syncEmcy, .timestamp, .nmtNodeGuard, .unknown] →
          decodeBuffer b buf = frame (.unknown p))))

/-- R202, R235: an extended frame never raises: it decodes to no function code, no node id and an Unknown sub-frame, and those ports
are 0 with their valid bits clear. -/
def Obligations.ExtendedFrameNeverRaises : Prop :=
  ∀ (b : Build) (v : Bool) (buf : List Byte), buf.length = 16 → isExtended (identOf buf) = true →
    ∃ f, decodedTo b buf f ∧ f.functionCode = none ∧ f.nodeId = none ∧ f.subFrame = .unknown f.raw.payload ∧
      functionPorts (portsOf v (decodeBuffer b buf)) = functionPorts OutPorts.zero ∧
      (portsOf v (decodeBuffer b buf)).subKind = 0

/-- R207, R233: a decode fails only with InvalidFrameLength on another length, UnknownNmtCommand or UnknownSdoCommand; never with
UnknownFunctionCode. -/
def Obligations.DecodeFailsOnlyInThreeWays : Prop :=
  ∀ (b : Build) (buf : List Byte) (e : DecodeError), decodeBuffer b buf = .error e →
    (e = .invalidFrameLength ∧ buf.length ≠ 16) ∨
    (∃ c, e = .unknownNmtCommand c ∧ FirstPayloadByte buf c ∧ roleOf b buf = .nmtMc) ∨
    (∃ c, e = .unknownSdoCommand (c &&& 0xE0) ∧ FirstPayloadByte buf c ∧ (roleOf b buf = .sdoRx ∨ roleOf b buf = .sdoTx))

/-- R230, R231: when the status port shows each code, and the value beside it. -/
def Obligations.StatusCodesAndTheirCauses : Prop :=
  ∀ (b : Build) (v : Bool) (buf : List Byte) (b0 : Byte), (buf.length = 16 → FirstPayloadByte buf b0) →
    let o := portsOf v (decodeBuffer b buf)
    let std := buf.length = 16 ∧ isStandard (identOf buf) = true
    let badNmt := std ∧ roleOf b buf = .nmtMc ∧ b0 ∉ [0x01#8, 0x02, 0x80, 0x81, 0x82]
    let badSdo := std ∧ ((roleOf b buf = .sdoRx ∧ b0 &&& 0xE0 ∈ [0xA0#8, 0xE0]) ∨
      (roleOf b buf = .sdoTx ∧ b0 &&& 0xE0 ∈ [0xC0#8, 0xE0]))
    (o.status = 0 ↔ ∃ f, decodedTo b buf f) ∧ (o.status = 0 → o.errValue = 0) ∧
    (o.status = 1 ↔ buf.length ≠ 16) ∧ (o.status = 1 → o.errValue = 0) ∧
    (o.status = 3 ↔ badNmt) ∧ (o.status = 3 → o.errValue = b0) ∧
    (o.status = 4 ↔ badSdo) ∧ (o.status = 4 → o.errValue = b0 &&& 0xE0) ∧
    o.status ∉ [2#3, 5, 6, 7]

/-- R46: on an error every port but `out_valid`, `status` and `err_value` is 0; on a frame every absent value's port is 0 and its
valid bit or `sub_kind` says so. -/
def Obligations.AbsentValuesReadZero : Prop :=
  ∀ (b : Build) (v : Bool) (buf : List Byte),
    let o := portsOf v (decodeBuffer b buf)
    (∀ e, decodeBuffer b buf = .error e → o = errorOut v o.status o.errValue ∧ o.status ≠ 0) ∧
    (∀ f, decodedTo b buf f → o.status = 0 ∧ o.errValue = 0 ∧
      (f.functionCode = none → o.fcValid = false ∧ o.fcRaw = 0 ∧ o.fcTag = 0 ∧ o.role = 0) ∧
      (f.nodeId = none → o.nodeIdValid = false ∧ o.nodeId = 0) ∧
      (o.subKind ≠ 1 → nmtPorts o = nmtPorts OutPorts.zero) ∧
      (o.subKind ≠ 2 → o.subKind ≠ 3 → sdoPorts o = sdoPorts OutPorts.zero ∧ abortPorts o = abortPorts OutPorts.zero) ∧
      (∀ x, sdoFieldsIn f = some x →
        (x.expeditedData = none → o.sdoDataValid = false ∧ o.sdoData = 0) ∧
        (x.abortEntry = none → o.abortHit = false ∧ o.abortIdx = 0)))

/-- R97: the reserved codes of the ports are never produced, and the query tags 14 and 15 have no value. -/
def Obligations.ReservedCodesAreNeverProduced : Prop :=
  ∀ (b : Build) (v : Bool) (buf : List Byte),
    let o := portsOf v (decodeBuffer b buf)
    o.fcTag.toNat ≤ 14 ∧ o.nmtCmd.toNat ≤ 4 ∧ o.sdoTag.toNat ≤ 5 ∧ o.subKind.toNat ≤ 4 ∧ o.status.toNat ≤ 4 ∧
      (FcMapOk b.fcMap → queryPorts b.fcMap 14 = ⟨false, 0⟩ ∧ queryPorts b.fcMap 15 = ⟨false, 0⟩)

/-! ### The step -/

/-- A step presents the next input, answers the query, and runs the rows the buffer matches: the next row by `exec`, the others after
it. What stands before the rows run is written out. The model's own choices here: that one step runs the matched rows one after
the other by `exec`, after the query (log entry 1); the stimulus list (log entry 6); the held flags (log entry 8); and the counter
of free values, which a held presentation leaves as it is (log entry 9). -/
def Obligations.StepRunsTheDecodedRows : Prop :=
  (∀ (s : State) (p : Sample) (rest : List Sample), s.pending = p :: rest → Held p →
    ready s = { s with
      inp := p.ports, dataHeld := true, cvHeld := true, pending := rest, cv := queryPorts s.build.fcMap p.ports.cvTag }) ∧
  (∀ (s t : State) (i : Instr) (rows : List Instr), (ready s).dataHeld = true → fetchRows (ready s) = i :: rows →
    exec i (ready s) = .next t → step s = run rows t) ∧
  (∀ (s t : State) (i : Instr) (rows : List Instr), exec i s = .next t → run (i :: rows) s = run rows t) ∧
  (∀ s : State, run [] s = .next s)

/-- For a presentation of any buffer, held for `T_PD`, one step drives every decode port to the projection of DECODE (R200, R45 to
R47). The model's own choices here: the rows run in one step (log entry 1); the length is a natural number, not reduced modulo
2^LEN_W, so that buffers too long for the port are covered too (log entry 5, unsafe for those); the presentation is taken from the
list `pending` (log entry 6); the held flag (log entry 8); the counter `freeSeq` (log entry 9). -/
def Obligations.StepDrivesTheProjectionOfDecode : Prop :=
  ∀ (s : State) (p : Sample) (rest : List Sample) (buf : List Byte), s.pending = p :: rest → p.dataHeld = true →
    p.ports.Presents buf →
    ∃ t, step s = .next t ∧ t.out = portsOf p.ports.inValid (decodeBuffer s.build buf) ∧
      t.inp = p.ports ∧ t.pending = rest ∧ t.build = s.build ∧ (p.cvHeld = true → t.freeSeq = s.freeSeq)

/-- No step stops and none writes a table, whatever the state (R31, R207, R236, R262). -/
def Obligations.EveryStepAnswersNextAndKeepsTheTables : Prop :=
  ∀ s : State, ∃ t, step s = .next t ∧ t.build = s.build

/-- Every step of a legal build keeps the invariant (R8, R31, R43, R44, R141, R185, R262). The list of presentations and the held
flags it speaks of are the model's (log entries 6, 8). -/
def Obligations.StepKeepsTheInvariant : Prop :=
  ∀ s t : State, s.Inv → step s = .next t → t.Inv

/-- The reset state meets the invariant: the default tables are legal and the outputs are what the reset inputs decode to (R260). The
reset inputs are the model's choice (log entry 7). -/
def Obligations.ResetMeetsTheInvariant : Prop := State.reset.Inv

/-- R30, R34, R43, R237: what a step shows depends on the tables and the presentation only, never on an earlier input, output or error. -/
def Obligations.OutputsForgetThePast : Prop :=
  ∀ (s1 s2 t1 t2 : State) (p : Sample) (r1 r2 : List Sample), s1.pending = p :: r1 → s2.pending = p :: r2 → Held p →
    s1.build = s2.build → step s1 = .next t1 → step s2 = .next t2 → t1.out = t2.out ∧ t1.cv = t2.cv

/-- The results of a sequence of held presentations are the results of each, in the order presented (R70). The model's own choices
here: the presentations stand in the list `pending`, of which each step takes one (log entry 6), and the held flags (log entry 8). -/
def Obligations.ResultsFollowThePresentations : Prop :=
  ∀ (s : State) (k : Nat) (p : Sample), (∀ q ∈ s.pending, Held q) → s.pending[k]? = some p →
    ∃ t, afterSteps (k + 1) s = .next t ∧ ShowsResult s.build p t ∧ t.pending = s.pending.drop (k + 1) ∧ t.build = s.build

/-- R65: the `id`, `payload` and abort-code ports are the lanes of `in_data` whenever they are driven. -/
def Obligations.PortsCarryTheInputLanes : Prop :=
  ∀ (s t : State) (p : Sample) (rest : List Sample), s.pending = p :: rest → p.dataHeld = true → step s = .next t →
    t.out.status = 0 →
    t.out.id = p.ports.inData.extractLsb' 0 32 ∧ t.out.dlc = p.ports.inData.extractLsb' 32 8 ∧
    t.out.payload = p.ports.inData.extractLsb' 64 64 ∧
    (t.out.subKind = 2 ∨ t.out.subKind = 3 → t.out.sdoAbortCode = p.ports.inData.extractLsb' 96 32)

/-- A lane past the end of the buffer, and every lane when the length is not 16, reaches no output (R44). A buffer of 2^LEN_W bytes
or more is covered too, since the model does not reduce `in_len` modulo 2^LEN_W: its choice (log entry 5, unsafe for those). -/
def Obligations.DontCareLanesReachNothing : Prop :=
  ∀ (b : Build) (p q : InPorts) (buf : List Byte), p.Presents buf → q.Presents buf →
    p.decoded b = q.decoded b ∧ p.decoded b = decodeBuffer b buf

/-- R263: decode-path outputs sampled too soon are the free value of that sample and nothing else is touched; the query, if its own
input was held, is answered all the same. The form of the free value, the held flags and the list
of presentations are the model's (log entries 9, 8, 6). -/
def Obligations.EarlySampleShowsAFreeValue : Prop :=
  ∀ (s : State) (p : Sample) (rest : List Sample), s.pending = p :: rest → p.dataHeld = false →
    ∃ t, step s = .next t ∧ t.out = Config.unsettledOut s.freeSeq ∧ t.freeSeq = s.freeSeq + 1 ∧ t.build = s.build ∧
      t.inp = p.ports ∧ (p.cvHeld = true → t.cv = queryPorts s.build.fcMap p.ports.cvTag)

/-- With no presentation left the inputs stay and are sampled again: the outputs are those of the inputs that stand (R260). That the
frame source then holds its inputs is the model's choice (log entry 6). -/
def Obligations.HeldInputsKeepTheirOutputs : Prop :=
  ∀ s : State, s.pending = [] →
    ∃ t, step s = .next t ∧ t.inp = s.inp ∧ t.out = portsOf s.inp.inValid (s.inp.decoded s.build) ∧
      t.cv = queryPorts s.build.fcMap s.inp.cvTag ∧ t.pending = []
end

