-- ==== Sys2Proof/Laws/Bits.lean ====
section
/-! SUPPORT. Little-endian reads and writes (R63): the bytes of a word and the word of bytes are inverse to each other, in the widths the
block uses; and byte 0 of an SDO payload as its command specifier over its low bits (R170). -/

namespace Sys2Proof

@[simp] theorem leAssemble_one (a : Byte) : leAssemble 8 [a] = a := by simp [leAssemble]

theorem leAssemble_two (a b : Byte) : leAssemble 16 [a, b] = b ++ a := by
  apply BitVec.eq_of_getLsbD_eq
  intro i hi
  simp only [leAssemble, BitVec.getLsbD_or, BitVec.getLsbD_setWidth, BitVec.getLsbD_shiftLeft, BitVec.getLsbD_append]
  interval_cases i <;> simp

theorem leAssemble_four (a b c d : Byte) : leAssemble 32 [a, b, c, d] = d ++ c ++ b ++ a := by
  apply BitVec.eq_of_getLsbD_eq
  intro i hi
  simp only [leAssemble, BitVec.getLsbD_or, BitVec.getLsbD_setWidth, BitVec.getLsbD_shiftLeft, BitVec.getLsbD_append]
  interval_cases i <;> simp

/-- Bit `j` of byte `k` of assembled bytes, whatever the width. -/
theorem leAssemble_getLsbD (w : Nat) (bs : List Byte) (i : Nat) (h : i < w) :
    (leAssemble w bs).getLsbD i = ((bs[i / 8]?).getD 0).getLsbD (i % 8) := by
  induction bs generalizing i with
  | nil => simp [leAssemble]
  | cons b bs ih =>
    simp only [leAssemble, BitVec.getLsbD_or, BitVec.getLsbD_setWidth, BitVec.getLsbD_shiftLeft, h, decide_true, Bool.true_and]
    by_cases h8 : i < 8
    · simp [h8, Nat.div_eq_of_lt h8, Nat.mod_eq_of_lt h8]
    · obtain ⟨j, rfl⟩ : ∃ j, i = j + 8 := ⟨i - 8, by omega⟩
      rw [Nat.add_sub_cancel, ih j (by omega), BitVec.getLsbD_of_ge b _ (by omega)]
      simp [show (j + 8) / 8 = j / 8 + 1 by omega]

/-- The bytes of the word that four bytes make. -/
theorem leBytes_leAssemble_four (a b c d : Byte) : leBytes 4 (leAssemble 32 [a, b, c, d]) = [a, b, c, d] := by
  rw [leAssemble_four]
  simp only [leBytes, List.range, List.range.loop, List.map, List.cons.injEq, and_true]
  refine ⟨?_, ?_, ?_, ?_⟩ <;> apply BitVec.eq_of_getLsbD_eq <;> intro i hi <;>
    simp only [BitVec.getLsbD_extractLsb', BitVec.getLsbD_append] <;> interval_cases i <;> simp

/-- The word that the bytes of a word make. -/
theorem leAssemble_leBytes_four (v : BitVec 32) : leAssemble 32 (leBytes 4 v) = v := by
  apply BitVec.eq_of_getLsbD_eq
  intro i hi
  rw [leAssemble_getLsbD _ _ _ hi]
  interval_cases i <;> simp [leBytes, List.range, List.range.loop]

/-- The four bytes of a word. -/
theorem leBytes_four (v : BitVec 32) :
    leBytes 4 v = [v.extractLsb' 0 8, v.extractLsb' 8 8, v.extractLsb' 16 8, v.extractLsb' 24 8] := rfl

/-- R11: one byte of the buffer. -/
theorem memRead_one {buf : List Byte} {k : Nat} {v : Byte} (h : buf[k]? = some v) : memRead buf k 1 = v := by
  obtain ⟨hk, rfl⟩ := List.getElem?_eq_some_iff.1 h
  show leAssemble 8 ((buf.drop k).take 1) = _
  rw [List.drop_eq_getElem_cons hk, List.take_succ_cons, List.take_zero, leAssemble_one]

/-! Byte 0 of an SDO payload, for a command specifier whose low five bits are clear. -/

theorem sdoCs_or_low : ∀ (cs : Byte) (low : BitVec 5), cs &&& 0x1F = 0 → sdoCs (cs ||| low.setWidth 8) = cs := by decide

theorem low_of_or_low : ∀ (cs : Byte) (low : BitVec 5), cs &&& 0x1F = 0 →
    (cs ||| low.setWidth 8).extractLsb' 0 5 = low := by decide

/-- The e, s and n fields (R86) are those of the low bits. -/
theorem flags_of_or_low : ∀ (cs : Byte) (low : BitVec 5), cs &&& 0x1F = 0 →
    (cs ||| low.setWidth 8).getLsbD 1 = low.getLsbD 1 ∧ (cs ||| low.setWidth 8).getLsbD 0 = low.getLsbD 0 ∧
      sdoN (cs ||| low.setWidth 8) = low.extractLsb' 2 2 := by decide

/-- Byte 0 is its command specifier over its low bits. -/
theorem sdoCs_or_own_low : ∀ b0 : Byte, sdoCs b0 ||| (b0.extractLsb' 0 5).setWidth 8 = b0 := by decide

/-- 4 - n as a number (R175). -/
theorem count_toNat : ∀ n : BitVec 2, ((4 : Byte) - n.setWidth 8).toNat = 4 - n.toNat := by decide

/-- R45: the payload read back from its port. -/
theorem Payload.ofPort_port (p : Payload) : Payload.ofPort p.port = p := by
  obtain ⟨p0, p1, p2, p3, p4, p5, p6, p7⟩ := p
  simp only [Payload.ofPort, Payload.mk.injEq]
  refine ⟨?_, ?_, ?_, ?_, ?_, ?_, ?_, ?_⟩ <;> apply BitVec.eq_of_getLsbD_eq <;> intro i hi <;>
    simp only [Payload.port, Payload.bytes, BitVec.getLsbD_extractLsb'] <;>
    rw [leAssemble_getLsbD _ _ _ (by omega)] <;> interval_cases i <;> simp

end Sys2Proof
end

