-- ==== Sys2Proof/Laws/Compose.lean ====
section
/-! SUPPORT. PARSE and DECODE case by case: a wrong length, an extended frame, a standard frame. -/

namespace Sys2Proof

/-- A list of length 16, byte by byte. -/
theorem exists_of_length_sixteen {x : List Byte} (h : x.length = 16) :
    ∃ x0 x1 x2 x3 x4 x5 x6 x7 x8 x9 x10 x11 x12 x13 x14 x15,
      x = [x0, x1, x2, x3, x4, x5, x6, x7, x8, x9, x10, x11, x12, x13, x14, x15] := by
  match x, h with
  | [x0, x1, x2, x3, x4, x5, x6, x7, x8, x9, x10, x11, x12, x13, x14, x15], _ =>
    exact ⟨_, _, _, _, _, _, _, _, _, _, _, _, _, _, _, _, rfl⟩

/-- DECODE of a buffer that parses. -/
theorem decodeBuffer_of_parse {b : Build} {buf : List Byte} {raw : RawFrame} (h : parseFrame buf = .ok raw) :
    decodeBuffer b buf = decodeRaw b raw := by
  simp [decodeBuffer, h]

/-- DECODE of a buffer of a wrong length. -/
theorem decodeBuffer_of_length {b : Build} {buf : List Byte} (h : buf.length ≠ 16) :
    decodeBuffer b buf = .error .invalidFrameLength := by
  simp [decodeBuffer, parseFrame, h]

/-- DECODE of an extended frame (R202). -/
theorem decodeRaw_extended {b : Build} {raw : RawFrame} (h : isExtended raw.identifier = true) :
    decodeRaw b raw = .ok { raw := raw, functionCode := none, nodeId := none, subFrame := .unknown raw.payload } := by
  simp [decodeRaw, h]

/-- DECODE of a standard frame: its sub-frame, if it has one, under its role and node id. -/
theorem decodeRaw_standard {b : Build} {raw : RawFrame} (h : isExtended raw.identifier = false) :
    decodeRaw b raw = (subFrameOf b (resolve b.fcMap (fcRaw raw.identifier)) raw.payload).map fun sub =>
      { raw := raw, functionCode := some (resolve b.fcMap (fcRaw raw.identifier)),
        nodeId := some (canopenNodeId raw.identifier), subFrame := sub } := by
  simp only [decodeRaw, h, Bool.false_eq_true, if_false]
  cases subFrameOf b (resolve b.fcMap (fcRaw raw.identifier)) raw.payload <;> rfl

/-- The fields of an SDO payload that decodes. -/
theorem sdoDecode_ok {b : Build} {dir : Direction} {p : Payload} {x : SdoFields} (h : sdoDecode b dir p = .ok x) :
    ∃ tag, sdoTagOf dir (sdoCs p.p0) = some tag ∧
      x = ⟨sdoCs p.p0, tag, (sdoFlags tag p.p0).1, (sdoFlags tag p.p0).2, sdoCount tag p.p0, sdoIndex p, sdoSubIndex p,
        sdoData tag p.p0 [p.p4, p.p5, p.p6, p.p7], sdoAbortCode p,
        if tag = .abortTransfer then abortLookup b.abortTable (sdoAbortCode p) else none⟩ := by
  simp only [sdoDecode] at h
  split at h
  · cases h
  · rename_i tag ht
    cases h
    exact ⟨tag, ht, rfl⟩

/-- The ports of a decoded frame show status 0 and no error value. -/
theorem framePorts_status (v : Bool) (f : CanOpenFrame) :
    (framePorts v f).status = 0 ∧ (framePorts v f).errValue = 0 := by
  simp only [framePorts, OutPorts.putSub]
  cases f.subFrame <;> exact ⟨rfl, rfl⟩

end Sys2Proof
end

