-- ==== Sys2Proof/Laws/State.lean ====
section
/-! SUPPORT. Field lemmas: what each operation that drives ports leaves alone, and what presenting and answering the query do to
each field, so that no later proof unfolds a record update. -/

namespace Sys2Proof.Machine

variable (s : State)

/-! `raise` drives `out` and nothing else. -/
@[simp] theorem raise_build (e : DecodeError) : (raise e s).build = s.build := rfl
@[simp] theorem raise_inp (e : DecodeError) : (raise e s).inp = s.inp := rfl
@[simp] theorem raise_dataHeld (e : DecodeError) : (raise e s).dataHeld = s.dataHeld := rfl
@[simp] theorem raise_cvHeld (e : DecodeError) : (raise e s).cvHeld = s.cvHeld := rfl
@[simp] theorem raise_cv (e : DecodeError) : (raise e s).cv = s.cv := rfl
@[simp] theorem raise_pending (e : DecodeError) : (raise e s).pending = s.pending := rfl
@[simp] theorem raise_freeSeq (e : DecodeError) : (raise e s).freeSeq = s.freeSeq := rfl

/-! `driveRaw` drives `out` and nothing else. -/
@[simp] theorem driveRaw_build (raw : RawFrame) : (driveRaw raw s).build = s.build := rfl
@[simp] theorem driveRaw_inp (raw : RawFrame) : (driveRaw raw s).inp = s.inp := rfl
@[simp] theorem driveRaw_dataHeld (raw : RawFrame) : (driveRaw raw s).dataHeld = s.dataHeld := rfl
@[simp] theorem driveRaw_cvHeld (raw : RawFrame) : (driveRaw raw s).cvHeld = s.cvHeld := rfl
@[simp] theorem driveRaw_cv (raw : RawFrame) : (driveRaw raw s).cv = s.cv := rfl
@[simp] theorem driveRaw_pending (raw : RawFrame) : (driveRaw raw s).pending = s.pending := rfl
@[simp] theorem driveRaw_freeSeq (raw : RawFrame) : (driveRaw raw s).freeSeq = s.freeSeq := rfl

/-! `driveClass` drives `out` and nothing else. -/
@[simp] theorem driveClass_build (x : Bool) (a : BitVec 29) : (driveClass x a s).build = s.build := rfl
@[simp] theorem driveClass_inp (x : Bool) (a : BitVec 29) : (driveClass x a s).inp = s.inp := rfl
@[simp] theorem driveClass_dataHeld (x : Bool) (a : BitVec 29) : (driveClass x a s).dataHeld = s.dataHeld := rfl
@[simp] theorem driveClass_cvHeld (x : Bool) (a : BitVec 29) : (driveClass x a s).cvHeld = s.cvHeld := rfl
@[simp] theorem driveClass_cv (x : Bool) (a : BitVec 29) : (driveClass x a s).cv = s.cv := rfl
@[simp] theorem driveClass_pending (x : Bool) (a : BitVec 29) : (driveClass x a s).pending = s.pending := rfl
@[simp] theorem driveClass_freeSeq (x : Bool) (a : BitVec 29) : (driveClass x a s).freeSeq = s.freeSeq := rfl

/-! `driveNoFunction` drives `out` and nothing else. -/
@[simp] theorem driveNoFunction_build : (driveNoFunction s).build = s.build := rfl
@[simp] theorem driveNoFunction_inp : (driveNoFunction s).inp = s.inp := rfl
@[simp] theorem driveNoFunction_dataHeld : (driveNoFunction s).dataHeld = s.dataHeld := rfl
@[simp] theorem driveNoFunction_cvHeld : (driveNoFunction s).cvHeld = s.cvHeld := rfl
@[simp] theorem driveNoFunction_cv : (driveNoFunction s).cv = s.cv := rfl
@[simp] theorem driveNoFunction_pending : (driveNoFunction s).pending = s.pending := rfl
@[simp] theorem driveNoFunction_freeSeq : (driveNoFunction s).freeSeq = s.freeSeq := rfl

/-! `driveRole` drives `out` and nothing else. -/
@[simp] theorem driveRole_build (r : BitVec 4) (n : BitVec 7) : (driveRole r n s).build = s.build := rfl
@[simp] theorem driveRole_inp (r : BitVec 4) (n : BitVec 7) : (driveRole r n s).inp = s.inp := rfl
@[simp] theorem driveRole_dataHeld (r : BitVec 4) (n : BitVec 7) : (driveRole r n s).dataHeld = s.dataHeld := rfl
@[simp] theorem driveRole_cvHeld (r : BitVec 4) (n : BitVec 7) : (driveRole r n s).cvHeld = s.cvHeld := rfl
@[simp] theorem driveRole_cv (r : BitVec 4) (n : BitVec 7) : (driveRole r n s).cv = s.cv := rfl
@[simp] theorem driveRole_pending (r : BitVec 4) (n : BitVec 7) : (driveRole r n s).pending = s.pending := rfl
@[simp] theorem driveRole_freeSeq (r : BitVec 4) (n : BitVec 7) : (driveRole r n s).freeSeq = s.freeSeq := rfl

/-! `driveNmt` drives `out` and nothing else. -/
@[simp] theorem driveNmt_build (c : NmtCommand) (d : Byte) : (driveNmt c d s).build = s.build := rfl
@[simp] theorem driveNmt_inp (c : NmtCommand) (d : Byte) : (driveNmt c d s).inp = s.inp := rfl
@[simp] theorem driveNmt_dataHeld (c : NmtCommand) (d : Byte) : (driveNmt c d s).dataHeld = s.dataHeld := rfl
@[simp] theorem driveNmt_cvHeld (c : NmtCommand) (d : Byte) : (driveNmt c d s).cvHeld = s.cvHeld := rfl
@[simp] theorem driveNmt_cv (c : NmtCommand) (d : Byte) : (driveNmt c d s).cv = s.cv := rfl
@[simp] theorem driveNmt_pending (c : NmtCommand) (d : Byte) : (driveNmt c d s).pending = s.pending := rfl
@[simp] theorem driveNmt_freeSeq (c : NmtCommand) (d : Byte) : (driveNmt c d s).freeSeq = s.freeSeq := rfl

/-! `driveSdo` drives `out` and nothing else. -/
@[simp] theorem driveSdo_build (dir : Direction) (cs : Byte) (tag : SdoTag) (o : SdoOperands) : (driveSdo dir cs tag o s).build = s.build := rfl
@[simp] theorem driveSdo_inp (dir : Direction) (cs : Byte) (tag : SdoTag) (o : SdoOperands) : (driveSdo dir cs tag o s).inp = s.inp := rfl
@[simp] theorem driveSdo_dataHeld (dir : Direction) (cs : Byte) (tag : SdoTag) (o : SdoOperands) : (driveSdo dir cs tag o s).dataHeld = s.dataHeld := rfl
@[simp] theorem driveSdo_cvHeld (dir : Direction) (cs : Byte) (tag : SdoTag) (o : SdoOperands) : (driveSdo dir cs tag o s).cvHeld = s.cvHeld := rfl
@[simp] theorem driveSdo_cv (dir : Direction) (cs : Byte) (tag : SdoTag) (o : SdoOperands) : (driveSdo dir cs tag o s).cv = s.cv := rfl
@[simp] theorem driveSdo_pending (dir : Direction) (cs : Byte) (tag : SdoTag) (o : SdoOperands) : (driveSdo dir cs tag o s).pending = s.pending := rfl
@[simp] theorem driveSdo_freeSeq (dir : Direction) (cs : Byte) (tag : SdoTag) (o : SdoOperands) : (driveSdo dir cs tag o s).freeSeq = s.freeSeq := rfl

/-! `driveAbort` drives `out` and nothing else. -/
@[simp] theorem driveAbort_build (c : BitVec 32) : (driveAbort c s).build = s.build := rfl
@[simp] theorem driveAbort_inp (c : BitVec 32) : (driveAbort c s).inp = s.inp := rfl
@[simp] theorem driveAbort_dataHeld (c : BitVec 32) : (driveAbort c s).dataHeld = s.dataHeld := rfl
@[simp] theorem driveAbort_cvHeld (c : BitVec 32) : (driveAbort c s).cvHeld = s.cvHeld := rfl
@[simp] theorem driveAbort_cv (c : BitVec 32) : (driveAbort c s).cv = s.cv := rfl
@[simp] theorem driveAbort_pending (c : BitVec 32) : (driveAbort c s).pending = s.pending := rfl
@[simp] theorem driveAbort_freeSeq (c : BitVec 32) : (driveAbort c s).freeSeq = s.freeSeq := rfl

/-! `sampleEarly` drives `out` and nothing else. -/
@[simp] theorem sampleEarly_build (n : Nat) : (sampleEarly n s).build = s.build := rfl
@[simp] theorem sampleEarly_inp (n : Nat) : (sampleEarly n s).inp = s.inp := rfl
@[simp] theorem sampleEarly_dataHeld (n : Nat) : (sampleEarly n s).dataHeld = s.dataHeld := rfl
@[simp] theorem sampleEarly_cvHeld (n : Nat) : (sampleEarly n s).cvHeld = s.cvHeld := rfl
@[simp] theorem sampleEarly_cv (n : Nat) : (sampleEarly n s).cv = s.cv := rfl
@[simp] theorem sampleEarly_pending (n : Nat) : (sampleEarly n s).pending = s.pending := rfl
@[simp] theorem sampleEarly_freeSeq (n : Nat) : (sampleEarly n s).freeSeq = s.freeSeq := rfl

/-! Presenting and answering the query. -/
@[simp] theorem present_build : (present s).build = s.build := by unfold present; split <;> rfl
@[simp] theorem present_out : (present s).out = s.out := by unfold present; split <;> rfl
@[simp] theorem present_cv : (present s).cv = s.cv := by unfold present; split <;> rfl
@[simp] theorem present_freeSeq : (present s).freeSeq = s.freeSeq := by unfold present; split <;> rfl

theorem present_cons {p : Sample} {rest : List Sample} (h : s.pending = p :: rest) :
    present s = { s with inp := p.ports, dataHeld := p.dataHeld, cvHeld := p.cvHeld, pending := rest } := by
  simp [present, h]

theorem present_nil (h : s.pending = []) : present s = { s with dataHeld := true, cvHeld := true } := by
  simp [present, h]

@[simp] theorem ready_build : (ready s).build = s.build := by simp [ready, driveQuery]
@[simp] theorem ready_out : (ready s).out = s.out := by simp [ready, driveQuery]
@[simp] theorem ready_inp : (ready s).inp = (present s).inp := rfl
@[simp] theorem ready_dataHeld : (ready s).dataHeld = (present s).dataHeld := rfl
@[simp] theorem ready_cvHeld : (ready s).cvHeld = (present s).cvHeld := rfl
@[simp] theorem ready_pending : (ready s).pending = (present s).pending := rfl

end Sys2Proof.Machine
end

