-- ==== Sys2Proof/Laws/Exec.lean ====
section
/-! SUPPORT. What executing a row, and running rows, can do: they always answer next, and touch `out` only. -/

namespace Sys2Proof.Machine

/-- Everything `exec` can do: it answers next, and the state differs from the one before in `out` alone. -/
theorem exec_next (i : Instr) (s : State) : ∃ o, exec i s = .next { s with out := o } := by
  cases i <;> exact ⟨_, rfl⟩

/-- The same of a list of rows. -/
theorem run_next (is : List Instr) (s : State) : ∃ o, run is s = .next { s with out := o } := by
  induction is generalizing s with
  | nil => exact ⟨s.out, rfl⟩
  | cons i is ih =>
    obtain ⟨o, ho⟩ := exec_next i s
    obtain ⟨o', ho'⟩ := ih { s with out := o }
    exact ⟨o', by simp [run, ho, ho']⟩

/-- The rows run one after the other. -/
theorem run_cons {i : Instr} {is : List Instr} {s t : State} (h : exec i s = .next t) : run (i :: is) s = run is t := by
  simp [run, h]

/-- Rows appended run after those before them. -/
theorem run_append {a b : List Instr} {s t : State} (h : run a s = .next t) : run (a ++ b) s = run b t := by
  induction a generalizing s with
  | nil =>
    simp only [run, Host.Outcome.next.injEq] at h
    rw [List.nil_append, h]
  | cons i is ih =>
    obtain ⟨o, ho⟩ := exec_next i s
    rw [run_cons ho] at h
    rw [List.cons_append, run_cons ho]
    exact ih h

/-- What stands before the rows run when a presentation is made. -/
theorem ready_cons {s : State} {p : Sample} {rest : List Sample} (h : s.pending = p :: rest) :
    ready s = { s with
      inp := p.ports, dataHeld := p.dataHeld, cvHeld := p.cvHeld, pending := rest,
      cv := if p.cvHeld then queryPorts s.build.fcMap p.ports.cvTag else Config.unsettledCv s.freeSeq,
      freeSeq := if p.dataHeld && p.cvHeld then s.freeSeq else s.freeSeq + 1 } := by
  simp [ready, present_cons s h, driveQuery, nextSeq]

/-- What stands before the rows run when none is left to make. -/
theorem ready_nil {s : State} (h : s.pending = []) : ready s =
    { s with dataHeld := true, cvHeld := true, cv := queryPorts s.build.fcMap s.inp.cvTag } := by
  simp [ready, present_nil s h, driveQuery, nextSeq]

end Sys2Proof.Machine
end

