-- ==== Sys2Proof/Laws/PerInstr.lean ====
section
/-! SUPPORT. Statements made of every row by itself. -/

namespace Sys2Proof

/-- The length of a format's field in bytes (R60 to R62, R80); FRAME_LEN is the whole buffer of a frame. -/
def Format.bytes : Format → Nat
  | .frameLen => 16
  | .id32Class | .id32Rtr | .id32Err | .id32Std | .abort32 => 4
  | .nmtB0 => 2
  | .sdoB0Rx | .sdoB0Tx => 8

end Sys2Proof

/-- The encoding of a row fills its field; the INVALID_FRAME_LENGTH row has the length it is about (R110). -/
def Sys2Proof.Laws.EncodeLength.Statement (i : Sys2Proof.Instr) : Prop :=
  (Sys2Proof.encode i).length = i.format.bytes ∨ i = .invalidFrameLength (Sys2Proof.encode i).length

namespace Sys2Proof.Laws.EncodeLength

theorem parse (id : Ident) (dlc : Byte) (payload : Payload) : Statement (.parse id dlc payload) := .inl rfl
theorem invalidFrameLength (len : Nat) : Statement (.invalidFrameLength len) := .inr (by simp [encode])
theorem isExtended (rtr err : Bool) (addr : BitVec 29) : Statement (.isExtended rtr err addr) := .inl rfl
theorem isStandard (rtr err : Bool) (addr : BitVec 29) : Statement (.isStandard rtr err addr) := .inl rfl
theorem isRemoteRequest (eff err : Bool) (addr : BitVec 29) : Statement (.isRemoteRequest eff err addr) := .inl rfl
theorem isErrorFrame (eff rtr : Bool) (addr : BitVec 29) : Statement (.isErrorFrame eff rtr addr) := .inl rfl
theorem fc0NmtMc (node : BitVec 7) : Statement (.fc0NmtMc node) := .inl rfl
theorem fc1SyncEmcy (node : BitVec 7) : Statement (.fc1SyncEmcy node) := .inl rfl
theorem fc2Timestamp (node : BitVec 7) : Statement (.fc2Timestamp node) := .inl rfl
theorem fc3Pdo1Tx (node : BitVec 7) : Statement (.fc3Pdo1Tx node) := .inl rfl
theorem fc4Pdo1Rx (node : BitVec 7) : Statement (.fc4Pdo1Rx node) := .inl rfl
theorem fc5Pdo2Tx (node : BitVec 7) : Statement (.fc5Pdo2Tx node) := .inl rfl
theorem fc6Pdo2Rx (node : BitVec 7) : Statement (.fc6Pdo2Rx node) := .inl rfl
theorem fc7Pdo3Tx (node : BitVec 7) : Statement (.fc7Pdo3Tx node) := .inl rfl
theorem fc8Pdo3Rx (node : BitVec 7) : Statement (.fc8Pdo3Rx node) := .inl rfl
theorem fc9Pdo4Tx (node : BitVec 7) : Statement (.fc9Pdo4Tx node) := .inl rfl
theorem fcAPdo4Rx (node : BitVec 7) : Statement (.fcAPdo4Rx node) := .inl rfl
theorem fcBSdoTx (node : BitVec 7) : Statement (.fcBSdoTx node) := .inl rfl
theorem fcCSdoRx (node : BitVec 7) : Statement (.fcCSdoRx node) := .inl rfl
theorem fcDUnknown (node : BitVec 7) : Statement (.fcDUnknown node) := .inl rfl
theorem fcENmtNodeGuard (node : BitVec 7) : Statement (.fcENmtNodeGuard node) := .inl rfl
theorem fcFUnknown (node : BitVec 7) : Statement (.fcFUnknown node) := .inl rfl
theorem nmtStart (target : Byte) : Statement (.nmtStart target) := .inl rfl
theorem nmtStop (target : Byte) : Statement (.nmtStop target) := .inl rfl
theorem nmtEnterPreOperational (target : Byte) : Statement (.nmtEnterPreOperational target) := .inl rfl
theorem nmtResetApplication (target : Byte) : Statement (.nmtResetApplication target) := .inl rfl
theorem nmtResetCommunication (target : Byte) : Statement (.nmtResetCommunication target) := .inl rfl
theorem nmtIllegal (command : Byte) : Statement (.nmtIllegal command) := .inl rfl
theorem sdoRxDownloadSegment (o : SdoOperands) : Statement (.sdoRxDownloadSegment o) := .inl rfl
theorem sdoRxDownloadInitiate (o : SdoOperands) : Statement (.sdoRxDownloadInitiate o) := .inl rfl
theorem sdoRxUploadInitiate (o : SdoOperands) : Statement (.sdoRxUploadInitiate o) := .inl rfl
theorem sdoRxUploadSegment (o : SdoOperands) : Statement (.sdoRxUploadSegment o) := .inl rfl
theorem sdoRxAbortTransfer (o : SdoOperands) : Statement (.sdoRxAbortTransfer o) := .inl rfl
theorem sdoRxIllegalA0 : Statement (.sdoRxIllegalA0) := .inl rfl
theorem sdoRxBlockDownload (o : SdoOperands) : Statement (.sdoRxBlockDownload o) := .inl rfl
theorem sdoRxIllegalE0 : Statement (.sdoRxIllegalE0) := .inl rfl
theorem sdoTxUploadSegment (o : SdoOperands) : Statement (.sdoTxUploadSegment o) := .inl rfl
theorem sdoTxDownloadSegment (o : SdoOperands) : Statement (.sdoTxDownloadSegment o) := .inl rfl
theorem sdoTxUploadInitiate (o : SdoOperands) : Statement (.sdoTxUploadInitiate o) := .inl rfl
theorem sdoTxDownloadInitiate (o : SdoOperands) : Statement (.sdoTxDownloadInitiate o) := .inl rfl
theorem sdoTxAbortTransfer (o : SdoOperands) : Statement (.sdoTxAbortTransfer o) := .inl rfl
theorem sdoTxBlockDownload (o : SdoOperands) : Statement (.sdoTxBlockDownload o) := .inl rfl
theorem sdoTxIllegalC0 : Statement (.sdoTxIllegalC0) := .inl rfl
theorem sdoTxIllegalE0 : Statement (.sdoTxIllegalE0) := .inl rfl
theorem abort05030000 : Statement (.abort05030000) := .inl rfl
theorem abort05040000 : Statement (.abort05040000) := .inl rfl
theorem abort05040001 : Statement (.abort05040001) := .inl rfl
theorem abort05040002 : Statement (.abort05040002) := .inl rfl
theorem abort05040003 : Statement (.abort05040003) := .inl rfl
theorem abort05040004 : Statement (.abort05040004) := .inl rfl
theorem abort05040005 : Statement (.abort05040005) := .inl rfl
theorem abort06010000 : Statement (.abort06010000) := .inl rfl
theorem abort06010001 : Statement (.abort06010001) := .inl rfl
theorem abort06010002 : Statement (.abort06010002) := .inl rfl
theorem abort06020000 : Statement (.abort06020000) := .inl rfl
theorem abort06040041 : Statement (.abort06040041) := .inl rfl
theorem abort06040042 : Statement (.abort06040042) := .inl rfl
theorem abort06040043 : Statement (.abort06040043) := .inl rfl
theorem abort06040047 : Statement (.abort06040047) := .inl rfl
theorem abort06060000 : Statement (.abort06060000) := .inl rfl
theorem abort06070010 : Statement (.abort06070010) := .inl rfl
theorem abort06070012 : Statement (.abort06070012) := .inl rfl
theorem abort06070013 : Statement (.abort06070013) := .inl rfl
theorem abort06090011 : Statement (.abort06090011) := .inl rfl
theorem abort06090030 : Statement (.abort06090030) := .inl rfl
theorem abort06090031 : Statement (.abort06090031) := .inl rfl
theorem abort06090032 : Statement (.abort06090032) := .inl rfl
theorem abort06090036 : Statement (.abort06090036) := .inl rfl
theorem abort060A0023 : Statement (.abort060A0023) := .inl rfl
theorem abort08000000 : Statement (.abort08000000) := .inl rfl
theorem abort08000020 : Statement (.abort08000020) := .inl rfl
theorem abort08000021 : Statement (.abort08000021) := .inl rfl
theorem abort08000022 : Statement (.abort08000022) := .inl rfl
theorem abort08000023 : Statement (.abort08000023) := .inl rfl
theorem abort08000024 : Statement (.abort08000024) := .inl rfl

end Sys2Proof.Laws.EncodeLength
end

