-- ==== Sys2Proof/Laws/Ports.lean ====
section
/-! SUPPORT. What the operations that drive output ports do to each port (R45, R46): each one's own ports, and every other as before. -/

namespace Sys2Proof

variable (o : OutPorts)

/-! `putSub` drives the sub-frame ports and no other. -/
@[simp] theorem OutPorts.putSub_outValid (s : SubFrame) : (o.putSub s).outValid = o.outValid := by cases s <;> rfl
@[simp] theorem OutPorts.putSub_status (s : SubFrame) : (o.putSub s).status = o.status := by cases s <;> rfl
@[simp] theorem OutPorts.putSub_errValue (s : SubFrame) : (o.putSub s).errValue = o.errValue := by cases s <;> rfl
@[simp] theorem OutPorts.putSub_id (s : SubFrame) : (o.putSub s).id = o.id := by cases s <;> rfl
@[simp] theorem OutPorts.putSub_dlc (s : SubFrame) : (o.putSub s).dlc = o.dlc := by cases s <;> rfl
@[simp] theorem OutPorts.putSub_payload (s : SubFrame) : (o.putSub s).payload = o.payload := by cases s <;> rfl
@[simp] theorem OutPorts.putSub_fExt (s : SubFrame) : (o.putSub s).fExt = o.fExt := by cases s <;> rfl
@[simp] theorem OutPorts.putSub_fStd (s : SubFrame) : (o.putSub s).fStd = o.fStd := by cases s <;> rfl
@[simp] theorem OutPorts.putSub_fRtr (s : SubFrame) : (o.putSub s).fRtr = o.fRtr := by cases s <;> rfl
@[simp] theorem OutPorts.putSub_fErr (s : SubFrame) : (o.putSub s).fErr = o.fErr := by cases s <;> rfl
@[simp] theorem OutPorts.putSub_nodeAddr (s : SubFrame) : (o.putSub s).nodeAddr = o.nodeAddr := by cases s <;> rfl
@[simp] theorem OutPorts.putSub_stdAddr (s : SubFrame) : (o.putSub s).stdAddr = o.stdAddr := by cases s <;> rfl
@[simp] theorem OutPorts.putSub_extAddr (s : SubFrame) : (o.putSub s).extAddr = o.extAddr := by cases s <;> rfl
@[simp] theorem OutPorts.putSub_errBits (s : SubFrame) : (o.putSub s).errBits = o.errBits := by cases s <;> rfl
@[simp] theorem OutPorts.putSub_fcValid (s : SubFrame) : (o.putSub s).fcValid = o.fcValid := by cases s <;> rfl
@[simp] theorem OutPorts.putSub_fcRaw (s : SubFrame) : (o.putSub s).fcRaw = o.fcRaw := by cases s <;> rfl
@[simp] theorem OutPorts.putSub_fcTag (s : SubFrame) : (o.putSub s).fcTag = o.fcTag := by cases s <;> rfl
@[simp] theorem OutPorts.putSub_role (s : SubFrame) : (o.putSub s).role = o.role := by cases s <;> rfl
@[simp] theorem OutPorts.putSub_nodeIdValid (s : SubFrame) : (o.putSub s).nodeIdValid = o.nodeIdValid := by cases s <;> rfl
@[simp] theorem OutPorts.putSub_nodeId (s : SubFrame) : (o.putSub s).nodeId = o.nodeId := by cases s <;> rfl
@[simp] theorem OutPorts.putSub_subKind (s : SubFrame) : (o.putSub s).subKind = s.kind := by cases s <;> rfl

/-! `putFunction` drives the function-code and node-id ports and no other. -/
@[simp] theorem OutPorts.putFunction_outValid (fc : Option (BitVec 4 × FunctionCode)) (n : Option (BitVec 7)) :
    (o.putFunction fc n).outValid = o.outValid := rfl
@[simp] theorem OutPorts.putFunction_status (fc : Option (BitVec 4 × FunctionCode)) (n : Option (BitVec 7)) :
    (o.putFunction fc n).status = o.status := rfl
@[simp] theorem OutPorts.putFunction_errValue (fc : Option (BitVec 4 × FunctionCode)) (n : Option (BitVec 7)) :
    (o.putFunction fc n).errValue = o.errValue := rfl
@[simp] theorem OutPorts.putFunction_id (fc : Option (BitVec 4 × FunctionCode)) (n : Option (BitVec 7)) :
    (o.putFunction fc n).id = o.id := rfl
@[simp] theorem OutPorts.putFunction_dlc (fc : Option (BitVec 4 × FunctionCode)) (n : Option (BitVec 7)) :
    (o.putFunction fc n).dlc = o.dlc := rfl
@[simp] theorem OutPorts.putFunction_payload (fc : Option (BitVec 4 × FunctionCode)) (n : Option (BitVec 7)) :
    (o.putFunction fc n).payload = o.payload := rfl
@[simp] theorem OutPorts.putFunction_fExt (fc : Option (BitVec 4 × FunctionCode)) (n : Option (BitVec 7)) :
    (o.putFunction fc n).fExt = o.fExt := rfl
@[simp] theorem OutPorts.putFunction_fStd (fc : Option (BitVec 4 × FunctionCode)) (n : Option (BitVec 7)) :
    (o.putFunction fc n).fStd = o.fStd := rfl
@[simp] theorem OutPorts.putFunction_fRtr (fc : Option (BitVec 4 × FunctionCode)) (n : Option (BitVec 7)) :
    (o.putFunction fc n).fRtr = o.fRtr := rfl
@[simp] theorem OutPorts.putFunction_fErr (fc : Option (BitVec 4 × FunctionCode)) (n : Option (BitVec 7)) :
    (o.putFunction fc n).fErr = o.fErr := rfl
@[simp] theorem OutPorts.putFunction_nodeAddr (fc : Option (BitVec 4 × FunctionCode)) (n : Option (BitVec 7)) :
    (o.putFunction fc n).nodeAddr = o.nodeAddr := rfl
@[simp] theorem OutPorts.putFunction_stdAddr (fc : Option (BitVec 4 × FunctionCode)) (n : Option (BitVec 7)) :
    (o.putFunction fc n).stdAddr = o.stdAddr := rfl
@[simp] theorem OutPorts.putFunction_extAddr (fc : Option (BitVec 4 × FunctionCode)) (n : Option (BitVec 7)) :
    (o.putFunction fc n).extAddr = o.extAddr := rfl
@[simp] theorem OutPorts.putFunction_errBits (fc : Option (BitVec 4 × FunctionCode)) (n : Option (BitVec 7)) :
    (o.putFunction fc n).errBits = o.errBits := rfl
@[simp] theorem OutPorts.putFunction_subKind (fc : Option (BitVec 4 × FunctionCode)) (n : Option (BitVec 7)) :
    (o.putFunction fc n).subKind = o.subKind := rfl
@[simp] theorem OutPorts.putFunction_nmtCmd (fc : Option (BitVec 4 × FunctionCode)) (n : Option (BitVec 7)) :
    (o.putFunction fc n).nmtCmd = o.nmtCmd := rfl
@[simp] theorem OutPorts.putFunction_nmtTarget (fc : Option (BitVec 4 × FunctionCode)) (n : Option (BitVec 7)) :
    (o.putFunction fc n).nmtTarget = o.nmtTarget := rfl
@[simp] theorem OutPorts.putFunction_sdoCs (fc : Option (BitVec 4 × FunctionCode)) (n : Option (BitVec 7)) :
    (o.putFunction fc n).sdoCs = o.sdoCs := rfl
@[simp] theorem OutPorts.putFunction_sdoTag (fc : Option (BitVec 4 × FunctionCode)) (n : Option (BitVec 7)) :
    (o.putFunction fc n).sdoTag = o.sdoTag := rfl
@[simp] theorem OutPorts.putFunction_sdoE (fc : Option (BitVec 4 × FunctionCode)) (n : Option (BitVec 7)) :
    (o.putFunction fc n).sdoE = o.sdoE := rfl
@[simp] theorem OutPorts.putFunction_sdoS (fc : Option (BitVec 4 × FunctionCode)) (n : Option (BitVec 7)) :
    (o.putFunction fc n).sdoS = o.sdoS := rfl
@[simp] theorem OutPorts.putFunction_sdoCount (fc : Option (BitVec 4 × FunctionCode)) (n : Option (BitVec 7)) :
    (o.putFunction fc n).sdoCount = o.sdoCount := rfl
@[simp] theorem OutPorts.putFunction_sdoIndex (fc : Option (BitVec 4 × FunctionCode)) (n : Option (BitVec 7)) :
    (o.putFunction fc n).sdoIndex = o.sdoIndex := rfl
@[simp] theorem OutPorts.putFunction_sdoSubindex (fc : Option (BitVec 4 × FunctionCode)) (n : Option (BitVec 7)) :
    (o.putFunction fc n).sdoSubindex = o.sdoSubindex := rfl
@[simp] theorem OutPorts.putFunction_sdoDataValid (fc : Option (BitVec 4 × FunctionCode)) (n : Option (BitVec 7)) :
    (o.putFunction fc n).sdoDataValid = o.sdoDataValid := rfl
@[simp] theorem OutPorts.putFunction_sdoData (fc : Option (BitVec 4 × FunctionCode)) (n : Option (BitVec 7)) :
    (o.putFunction fc n).sdoData = o.sdoData := rfl
@[simp] theorem OutPorts.putFunction_sdoAbortCode (fc : Option (BitVec 4 × FunctionCode)) (n : Option (BitVec 7)) :
    (o.putFunction fc n).sdoAbortCode = o.sdoAbortCode := rfl
@[simp] theorem OutPorts.putFunction_abortHit (fc : Option (BitVec 4 × FunctionCode)) (n : Option (BitVec 7)) :
    (o.putFunction fc n).abortHit = o.abortHit := rfl
@[simp] theorem OutPorts.putFunction_abortIdx (fc : Option (BitVec 4 × FunctionCode)) (n : Option (BitVec 7)) :
    (o.putFunction fc n).abortIdx = o.abortIdx := rfl

/-- The sub-frame ports forget what they showed before. -/
theorem OutPorts.putSub_putSub (s s' : SubFrame) : (o.putSub s).putSub s' = o.putSub s' := by
  cases s <;> cases s' <;> rfl

namespace Machine

variable (s : State)

/-! What each row operation drives. -/
theorem raise_out (e : DecodeError) : (raise e s).out = OutPorts.ofError s.inp.inValid e := rfl
theorem driveRaw_out (raw : RawFrame) : (driveRaw raw s).out = OutPorts.ofRaw s.inp.inValid raw := rfl
theorem driveNoFunction_out :
    (driveNoFunction s).out = (s.out.putFunction none none).putSub (.unknown (Payload.ofPort s.out.payload)) := rfl
theorem driveNmt_out (c : NmtCommand) (d : Byte) : (driveNmt c d s).out = s.out.putSub (.nmtMasterControl c d) := rfl
theorem driveSdo_out (dir : Direction) (cs : Byte) (tag : SdoTag) (o : SdoOperands) :
    (driveSdo dir cs tag o s).out = s.out.putSub (sdoSub dir (sdoFieldsOf s.build cs tag o)) := rfl
theorem driveAbort_out (code : BitVec 32) : (driveAbort code s).out =
    { s.out with
      abortHit := (abortLookup s.build.abortTable code).isSome
      abortIdx := BitVec.ofNat 5 ((abortLookup s.build.abortTable code).getD 0) } := rfl

/-- A function-code row: its role and node id, and the sub-frame of a role with no payload decoder. -/
theorem driveRole_out (raw : BitVec 4) (node : BitVec 7) : (driveRole raw node s).out =
    match opaqueSub (resolve s.build.fcMap raw) (Payload.ofPort s.out.payload) with
    | some sub => (s.out.putFunction (some (raw, resolve s.build.fcMap raw)) (some node)).putSub sub
    | none => s.out.putFunction (some (raw, resolve s.build.fcMap raw)) (some node) := rfl

end Machine
end Sys2Proof
end

