-- ==== Sys2Proof/Laws/Tables.lean ====
section
/-! SUPPORT. Everything a table lookup can answer, so that no later proof unfolds a search. -/

namespace Sys2Proof

variable {α β : Type} [DecidableEq α] {t : List (α × β)} {k : α} {v : β}

/-- A partner found is listed. -/
theorem tableFind_mem (h : tableFind t k = some v) : (k, v) ∈ t := by
  simp only [tableFind, Option.map_eq_some_iff] at h
  obtain ⟨⟨a, b⟩, h1, rfl⟩ := h
  have h2 := List.find?_some h1
  simp only [decide_eq_true_eq] at h2
  exact h2 ▸ List.mem_of_find?_eq_some h1

/-- A partner listed under a key that stands once is found. -/
theorem tableFind_of_mem (hn : (t.map Prod.fst).Nodup) (h : (k, v) ∈ t) : tableFind t k = some v := by
  induction t with
  | nil => cases h
  | cons e t ih =>
    rw [List.map_cons, List.nodup_cons] at hn
    rcases List.mem_cons.1 h with rfl | h
    · simp [tableFind]
    · have hne : e.1 ≠ k := by
        rintro rfl
        exact hn.1 (List.mem_map.2 ⟨_, h, rfl⟩)
      have := ih hn.2 h
      simp only [tableFind, List.find?_cons, hne, decide_false] at this ⊢
      exact this

/-- No partner is found exactly when the key is not listed. -/
theorem tableFind_eq_none : tableFind t k = none ↔ ∀ e ∈ t, e.1 ≠ k := by simp [tableFind]

/-- The reverse table lists a tag with the raw value of its role. -/
theorem codeValue_mem {m : List (BitVec 4 × FunctionCode)} {tag v : BitVec 4} (h : codeValue m tag = some v) :
    ∃ r, (v, r) ∈ m ∧ r.tag = tag := by
  have := tableFind_mem h
  simp only [List.mem_map, Prod.mk.injEq] at this
  obtain ⟨⟨a, r⟩, h1, h2, rfl⟩ := this
  exact ⟨r, h1, h2⟩

/-- The tags of two roles differ (R36). -/
theorem FunctionCode.tag_injective : ∀ a b : FunctionCode, a.tag = b.tag → a = b := by
  intro a b
  cases a <;> cases b <;> decide

/-- A hit of the abort lookup stands in the table at that position. -/
theorem abortLookup_some {t : List (BitVec 32 × String)} {code : BitVec 32} {i : Nat} (h : abortLookup t code = some i) :
    (t[i]?).map Prod.fst = some code := by
  simp only [abortLookup, List.findIdx?_eq_some_iff_getElem] at h
  obtain ⟨h1, h2, _⟩ := h
  simp only [decide_eq_true_eq] at h2
  simp [h1, h2]

/-- A miss of the abort lookup: the code is not listed. -/
theorem abortLookup_none {t : List (BitVec 32 × String)} {code : BitVec 32} :
    abortLookup t code = none ↔ ∀ e ∈ t, e.1 ≠ code := by simp [abortLookup]

end Sys2Proof
end

