-- ==== Sys2Proof/Machine/Notation.lean ====
section
/-! DEFINITION. The textual notation of frames (R101, R102), as functions from its operands to the buffer it presents. -/

namespace Sys2Proof.Machine

/-- R101: `FRAME <id> <dlc> [p0 ... p7]`; payload bytes left out are 00, the padding bytes are 00. -/
def frameBytes (id : Ident) (dlc : Byte) (payload : List Byte) : List Byte :=
  leBytes 4 id ++ [dlc, 0, 0, 0] ++ (payload ++ List.replicate (8 - payload.length) 0).take 8

/-- R102: `NMT <cmd> <node>`. -/
def nmtBytes (command node : Byte) : List Byte := frameBytes 0x00000000 0x02 [command, node]

/-- R102: the SDO frame at identifier base + node. -/
def sdoFrameBytes (base : Ident) (node b0 : Byte) (index : BitVec 16) (sub : Byte) (data : List Byte) : List Byte :=
  frameBytes (base + node.setWidth 32) 0x08 ([b0, index.extractLsb' 0 8, index.extractLsb' 8 8, sub] ++ data)

/-- R102: `SDORX`, identifier 0x600 + node. -/
def sdoRxBytes : Byte → Byte → BitVec 16 → Byte → List Byte → List Byte := sdoFrameBytes 0x600

/-- R102: `SDOTX`, identifier 0x580 + node; an SDO_TX frame under the default `FC_MAP`. -/
def sdoTxBytes : Byte → Byte → BitVec 16 → Byte → List Byte → List Byte := sdoFrameBytes 0x580

/-- R102: `SDOABORT <dir> <node> <index> <sub> <code32>`. -/
def sdoAbortBytes (dir : Direction) (node : Byte) (index : BitVec 16) (sub : Byte) (code : BitVec 32) : List Byte :=
  match dir with
  | .rx => sdoRxBytes node 0x80 index sub (leBytes 4 code)
  | .tx => sdoTxBytes node 0x80 index sub (leBytes 4 code)

/-- R102: `EXT <id29> <dlc> [p0..p7]`. -/
def extBytes (id29 : BitVec 29) (dlc : Byte) (payload : List Byte) : List Byte :=
  frameBytes (effFlag ||| id29.setWidth 32) dlc payload

end Sys2Proof.Machine
end

