-- ==== Sys2Proof/Tests/Slice0.lean ====
section
/-! SUPPORT. The model's own tests. Expected results are the spec's: words from the encodings of spec/30_encoding.md and the tables
of 42 to 44, frames from spec/95_test_vectors.md (each test names its vector). After them, one witness for every statement
that has hypotheses. -/

namespace Sys2Proof.Tests

open Sys2Proof Sys2Proof.Machine Sys2Proof.Claims

/-! ### Well-formedness refuses a row whose match does not hold -/

theorem test_wf_refuses_length_16 : (Instr.invalidFrameLength 16).wf = false := by decide
theorem test_wf_admits_length_15_and_17 : (Instr.invalidFrameLength 15).wf = true ∧ (Instr.invalidFrameLength 17).wf = true := by
  decide
theorem test_wf_refuses_nmt_commands :
    ([0x01, 0x02, 0x80, 0x81, 0x82] : List Byte).map (fun c => (Instr.nmtIllegal c).wf) = [false, false, false, false, false] := by
  decide
theorem test_wf_admits_other_nmt_bytes :
    ([0x00, 0x03, 0x7F, 0x83, 0xFF] : List Byte).map (fun c => (Instr.nmtIllegal c).wf) = [true, true, true, true, true] := by decide

/-! ### Decoding: a word of every row, written out from its encoding -/

/-- R81, R110: 16 bytes are a frame (the bytes of vector L1-A), 15 are not. -/
theorem test_decode_frame_rows :
    decode .frameLen [0x02, 0x06, 0, 0, 0x08, 0, 0, 0, 0x23, 0x00, 0x10, 0x00, 1, 2, 3, 4] =
      .ok (.parse 0x602 8 ⟨0x23, 0x00, 0x10, 0x00, 1, 2, 3, 4⟩) ∧
    decode .frameLen [0x02, 0x06, 0, 0, 0x08, 0, 0, 0, 0x23, 0x00, 0x10, 0x00, 1, 2, 3] = .ok (.invalidFrameLength 15) := by decide

/-- R81, R120 to R124: 0xE0000001 has all three flags, 0x7FFFFFFF all but EFF. -/
theorem test_decode_identifier_rows :
    decode .id32Class [0x01, 0x00, 0x00, 0xE0] = .ok (.isExtended true true 0x1) ∧
    decode .id32Class [0xFF, 0xFF, 0xFF, 0x7F] = .ok (.isStandard true true 0x1FFFFFFF) ∧
    decode .id32Rtr [0x02, 0x07, 0x00, 0x40] = .ok (.isRemoteRequest false false 0x702) ∧
    decode .id32Err [0x04, 0x00, 0x00, 0x20] = .ok (.isErrorFrame false false 0x4) := by decide

/-- A clear flag has no row, an extended identifier no function code, an unlisted abort code no row, a short field no row. -/
theorem test_decode_rejects_by_name :
    decode .id32Rtr [0x02, 0x07, 0x00, 0xA0] = .error (.noRow .id32Rtr) ∧
    decode .id32Err [0x04, 0x00, 0x00, 0xC0] = .error (.noRow .id32Err) ∧
    decode .id32Std [0x02, 0x06, 0x00, 0x80] = .error (.noRow .id32Std) ∧
    decode .abort32 [0x00, 0x00, 0x03, 0x06] = .error (.noRow .abort32) ∧
    decode .nmtB0 [0x81] = .error (.fieldLength 1) := by decide

/-- R83, vectors L2.3: identifier (raw << 7) | 5, raw values 0 to 7. -/
theorem test_decode_function_rows_low :
    decode .id32Std [0x05, 0x00, 0x00, 0x00] = .ok (.fc0NmtMc 0x05) ∧
    decode .id32Std [0x85, 0x00, 0x00, 0x00] = .ok (.fc1SyncEmcy 0x05) ∧
    decode .id32Std [0x05, 0x01, 0x00, 0x00] = .ok (.fc2Timestamp 0x05) ∧
    decode .id32Std [0x85, 0x01, 0x00, 0x00] = .ok (.fc3Pdo1Tx 0x05) ∧
    decode .id32Std [0x05, 0x02, 0x00, 0x00] = .ok (.fc4Pdo1Rx 0x05) ∧
    decode .id32Std [0x85, 0x02, 0x00, 0x00] = .ok (.fc5Pdo2Tx 0x05) ∧
    decode .id32Std [0x05, 0x03, 0x00, 0x00] = .ok (.fc6Pdo2Rx 0x05) ∧
    decode .id32Std [0x85, 0x03, 0x00, 0x00] = .ok (.fc7Pdo3Tx 0x05) := by decide

/-- R83, vectors L2.3: identifier (raw << 7) | 5, raw values 8 to 15. -/
theorem test_decode_function_rows_high :
    decode .id32Std [0x05, 0x04, 0x00, 0x00] = .ok (.fc8Pdo3Rx 0x05) ∧
    decode .id32Std [0x85, 0x04, 0x00, 0x00] = .ok (.fc9Pdo4Tx 0x05) ∧
    decode .id32Std [0x05, 0x05, 0x00, 0x00] = .ok (.fcAPdo4Rx 0x05) ∧
    decode .id32Std [0x85, 0x05, 0x00, 0x00] = .ok (.fcBSdoTx 0x05) ∧
    decode .id32Std [0x05, 0x06, 0x00, 0x00] = .ok (.fcCSdoRx 0x05) ∧
    decode .id32Std [0x85, 0x06, 0x00, 0x00] = .ok (.fcDUnknown 0x05) ∧
    decode .id32Std [0x05, 0x07, 0x00, 0x00] = .ok (.fcENmtNodeGuard 0x05) ∧
    decode .id32Std [0x85, 0x07, 0x00, 0x00] = .ok (.fcFUnknown 0x05) := by decide

/-- R85, R95, R160: the command byte and the target byte. -/
theorem test_decode_nmt_rows :
    decode .nmtB0 [0x01, 0x05] = .ok (.nmtStart 0x05) ∧
    decode .nmtB0 [0x02, 0x05] = .ok (.nmtStop 0x05) ∧
    decode .nmtB0 [0x80, 0x05] = .ok (.nmtEnterPreOperational 0x05) ∧
    decode .nmtB0 [0x81, 0x05] = .ok (.nmtResetApplication 0x05) ∧
    decode .nmtB0 [0x82, 0x05] = .ok (.nmtResetCommunication 0x05) ∧
    decode .nmtB0 [0x83, 0x05] = .ok (.nmtIllegal 0x83) := by decide

/-- R86, R87, R89, R171: byte 0 with low bits 0x1B, index 0x1234 little-endian, sub-index 0x56, direction Rx. -/
theorem test_decode_sdo_rx_rows :
    let o : SdoOperands := ⟨0x1B, 0x1234, 0x56, 0xA1, 0xA2, 0xA3, 0xA4⟩
    decode .sdoB0Rx [0x1B, 0x34, 0x12, 0x56, 0xA1, 0xA2, 0xA3, 0xA4] = .ok (.sdoRxDownloadSegment o) ∧
    decode .sdoB0Rx [0x3B, 0x34, 0x12, 0x56, 0xA1, 0xA2, 0xA3, 0xA4] = .ok (.sdoRxDownloadInitiate o) ∧
    decode .sdoB0Rx [0x5B, 0x34, 0x12, 0x56, 0xA1, 0xA2, 0xA3, 0xA4] = .ok (.sdoRxUploadInitiate o) ∧
    decode .sdoB0Rx [0x7B, 0x34, 0x12, 0x56, 0xA1, 0xA2, 0xA3, 0xA4] = .ok (.sdoRxUploadSegment o) ∧
    decode .sdoB0Rx [0x9B, 0x34, 0x12, 0x56, 0xA1, 0xA2, 0xA3, 0xA4] = .ok (.sdoRxAbortTransfer o) ∧
    decode .sdoB0Rx [0xBB, 0x34, 0x12, 0x56, 0xA1, 0xA2, 0xA3, 0xA4] = .ok .sdoRxIllegalA0 ∧
    decode .sdoB0Rx [0xDB, 0x34, 0x12, 0x56, 0xA1, 0xA2, 0xA3, 0xA4] = .ok (.sdoRxBlockDownload o) ∧
    decode .sdoB0Rx [0xFB, 0x34, 0x12, 0x56, 0xA1, 0xA2, 0xA3, 0xA4] = .ok .sdoRxIllegalE0 := by decide

/-- R86, R87, R89, R171: byte 0 with low bits 0x1B, index 0x1234 little-endian, sub-index 0x56, direction Tx. -/
theorem test_decode_sdo_tx_rows :
    let o : SdoOperands := ⟨0x1B, 0x1234, 0x56, 0xA1, 0xA2, 0xA3, 0xA4⟩
    decode .sdoB0Tx [0x1B, 0x34, 0x12, 0x56, 0xA1, 0xA2, 0xA3, 0xA4] = .ok (.sdoTxUploadSegment o) ∧
    decode .sdoB0Tx [0x3B, 0x34, 0x12, 0x56, 0xA1, 0xA2, 0xA3, 0xA4] = .ok (.sdoTxDownloadSegment o) ∧
    decode .sdoB0Tx [0x5B, 0x34, 0x12, 0x56, 0xA1, 0xA2, 0xA3, 0xA4] = .ok (.sdoTxUploadInitiate o) ∧
    decode .sdoB0Tx [0x7B, 0x34, 0x12, 0x56, 0xA1, 0xA2, 0xA3, 0xA4] = .ok (.sdoTxDownloadInitiate o) ∧
    decode .sdoB0Tx [0x9B, 0x34, 0x12, 0x56, 0xA1, 0xA2, 0xA3, 0xA4] = .ok (.sdoTxAbortTransfer o) ∧
    decode .sdoB0Tx [0xBB, 0x34, 0x12, 0x56, 0xA1, 0xA2, 0xA3, 0xA4] = .ok (.sdoTxBlockDownload o) ∧
    decode .sdoB0Tx [0xDB, 0x34, 0x12, 0x56, 0xA1, 0xA2, 0xA3, 0xA4] = .ok .sdoTxIllegalC0 ∧
    decode .sdoB0Tx [0xFB, 0x34, 0x12, 0x56, 0xA1, 0xA2, 0xA3, 0xA4] = .ok .sdoTxIllegalE0 := by decide

/-- R63, R185: the codes little-endian, entries 0 to 15. -/
theorem test_decode_abort_rows_low :
    decode .abort32 [0x00, 0x00, 0x03, 0x05] = .ok .abort05030000 ∧
    decode .abort32 [0x00, 0x00, 0x04, 0x05] = .ok .abort05040000 ∧
    decode .abort32 [0x01, 0x00, 0x04, 0x05] = .ok .abort05040001 ∧
    decode .abort32 [0x02, 0x00, 0x04, 0x05] = .ok .abort05040002 ∧
    decode .abort32 [0x03, 0x00, 0x04, 0x05] = .ok .abort05040003 ∧
    decode .abort32 [0x04, 0x00, 0x04, 0x05] = .ok .abort05040004 ∧
    decode .abort32 [0x05, 0x00, 0x04, 0x05] = .ok .abort05040005 ∧
    decode .abort32 [0x00, 0x00, 0x01, 0x06] = .ok .abort06010000 ∧
    decode .abort32 [0x01, 0x00, 0x01, 0x06] = .ok .abort06010001 ∧
    decode .abort32 [0x02, 0x00, 0x01, 0x06] = .ok .abort06010002 ∧
    decode .abort32 [0x00, 0x00, 0x02, 0x06] = .ok .abort06020000 ∧
    decode .abort32 [0x41, 0x00, 0x04, 0x06] = .ok .abort06040041 ∧
    decode .abort32 [0x42, 0x00, 0x04, 0x06] = .ok .abort06040042 ∧
    decode .abort32 [0x43, 0x00, 0x04, 0x06] = .ok .abort06040043 ∧
    decode .abort32 [0x47, 0x00, 0x04, 0x06] = .ok .abort06040047 ∧
    decode .abort32 [0x00, 0x00, 0x06, 0x06] = .ok .abort06060000 := by decide

/-- R63, R185: the codes little-endian, entries 16 to 30. -/
theorem test_decode_abort_rows_high :
    decode .abort32 [0x10, 0x00, 0x07, 0x06] = .ok .abort06070010 ∧
    decode .abort32 [0x12, 0x00, 0x07, 0x06] = .ok .abort06070012 ∧
    decode .abort32 [0x13, 0x00, 0x07, 0x06] = .ok .abort06070013 ∧
    decode .abort32 [0x11, 0x00, 0x09, 0x06] = .ok .abort06090011 ∧
    decode .abort32 [0x30, 0x00, 0x09, 0x06] = .ok .abort06090030 ∧
    decode .abort32 [0x31, 0x00, 0x09, 0x06] = .ok .abort06090031 ∧
    decode .abort32 [0x32, 0x00, 0x09, 0x06] = .ok .abort06090032 ∧
    decode .abort32 [0x36, 0x00, 0x09, 0x06] = .ok .abort06090036 ∧
    decode .abort32 [0x23, 0x00, 0x0A, 0x06] = .ok .abort060A0023 ∧
    decode .abort32 [0x00, 0x00, 0x00, 0x08] = .ok .abort08000000 ∧
    decode .abort32 [0x20, 0x00, 0x00, 0x08] = .ok .abort08000020 ∧
    decode .abort32 [0x21, 0x00, 0x00, 0x08] = .ok .abort08000021 ∧
    decode .abort32 [0x22, 0x00, 0x00, 0x08] = .ok .abort08000022 ∧
    decode .abort32 [0x23, 0x00, 0x00, 0x08] = .ok .abort08000023 ∧
    decode .abort32 [0x24, 0x00, 0x00, 0x08] = .ok .abort08000024 := by decide

/-! ### Frames through one step, from spec/95_test_vectors.md -/

/-- The ports after one step that presents a buffer, held, on the machine after reset. -/
def portsAfter (buf : List Byte) : Option OutPorts :=
  match step (placeBuffer buf State.reset) with
  | .next t => some t.out
  | .fault _ => none
  | .refused _ => none

/-- Vector L1-A. -/
theorem test_L1_A_expedited_download : (portsAfter [0x02, 0x06, 0, 0, 8, 0, 0, 0, 0x23, 0x00, 0x10, 0x00, 1, 2, 3, 4]).map (fun o => ((o.status, o.fcTag, o.subKind), (o.sdoTag, o.sdoE, o.sdoS), (o.sdoCount, o.sdoIndex, o.sdoData))) =
    some ((0, 12, 2), (0, true, true), (4, 0x1000, 0x04030201)) := by decide

/-- Vector L1-B. -/
theorem test_L1_B_abort_text_entry : (portsAfter [0x82, 0x05, 0, 0, 8, 0, 0, 0, 0x80, 0, 0, 0, 0x00, 0x00, 0x02, 0x06]).map (fun o => ((o.status, o.fcTag, o.subKind), (o.sdoTag, o.sdoAbortCode, o.abortHit), (o.abortIdx))) =
    some ((0, 11, 3), (4, 0x06020000, true), (10)) := by decide

/-- Vector L1-C1. -/
theorem test_L1_C1_extended_is_not_decoded : (portsAfter [0x02, 0x06, 0, 0x80, 8, 0, 0, 0, 0x80, 0, 0, 0, 0, 0, 0, 0]).map (fun o => ((o.status, o.fExt, o.nodeAddr), (o.fcValid, o.nodeIdValid, o.subKind))) =
    some ((0, true, 0x602), (false, false, 0)) := by decide

/-- Vector L1-D. -/
theorem test_L1_D_nmt_reset_application : (portsAfter [0, 0, 0, 0, 2, 0, 0, 0, 0x81, 0x05, 0, 0, 0, 0, 0, 0]).map (fun o => ((o.status, o.fcTag, o.role), (o.subKind, o.nmtCmd, o.nmtTarget))) =
    some ((0, 0, 1), (1, 3, 0x05)) := by decide

/-- Vector L1-E. -/
theorem test_L1_E_length_15 : (portsAfter [0x02, 0x06, 0, 0, 8, 0, 0, 0, 0x23, 0x00, 0x10, 0x00, 1, 2, 3]).map (fun o => (o.outValid, o.status, o.errValue, o.id)) =
    some (true, 1, 0, 0) := by decide

/-- Vector L1-E. -/
theorem test_L1_E_length_17 : (portsAfter [0x02, 0x06, 0, 0, 8, 0, 0, 0, 0x23, 0x00, 0x10, 0x00, 1, 2, 3, 4, 0]).map (fun o => (o.outValid, o.status, o.errValue, o.id)) =
    some (true, 1, 0, 0) := by decide

/-- Vector L1-F1. -/
theorem test_L1_F1_one_byte : (portsAfter [0x02, 0x06, 0, 0, 8, 0, 0, 0, 0x2F, 0x00, 0x10, 0x00, 0xAA, 0xBB, 0xCC, 0xDD]).map (fun o => (o.sdoCount, o.sdoDataValid, o.sdoData, o.sdoAbortCode)) =
    some (1, true, 0x000000AA, 0xDDCCBBAA) := by decide

/-- Vector L1-I1. -/
theorem test_L1_I1_toggle_bit : (portsAfter [0x05, 0x06, 0, 0, 8, 0, 0, 0, 0x80, 0x00, 0x20, 0x01, 0x00, 0x00, 0x03, 0x05]).map (fun o => (o.sdoTag, o.sdoIndex, o.sdoSubindex, o.abortHit, o.abortIdx)) =
    some (4, 0x2000, 0x01, true, 0) := by decide

/-- Vector L2.1-1. -/
theorem test_L2_1_1_all_zero_is_an_illegal_nmt : (portsAfter [0, 0, 0, 0, 0, 0, 0, 0, 0, 0, 0, 0, 0, 0, 0, 0]).map (fun o => (o.status, o.errValue, o.fStd)) =
    some (3, 0, false) := by decide

/-- Vector L2.1-3. -/
theorem test_L2_1_3_padding_is_not_read : (portsAfter [0x85, 0x01, 0, 0, 8, 0xAA, 0x55, 0xFF, 1, 2, 3, 4, 5, 6, 7, 8]).map (fun o => ((o.id, o.dlc, o.payload), (o.subKind, o.fcTag, o.nodeId))) =
    some ((0x185, 8, 0x0807060504030201), (4, 3, 5)) := by decide

/-- Vector L2.1-7. -/
theorem test_L2_1_7_little_endian_identifier : (portsAfter [0x78, 0x56, 0x34, 0x12, 8, 0, 0, 0, 0, 0, 0, 0, 0, 0, 0, 0]).map (fun o => ((o.id, o.nodeAddr, o.stdAddr), (o.extAddr, o.errBits, o.fcRaw), (o.nodeId, o.sdoTag))) =
    some ((0x12345678, 0x678, 0x678), (0x12345678, 0x12345678, 0xC), (0x78, 1)) := by decide

/-- Vectors L1-G: tag 13 is raw 0xE, tag 14 (UNKNOWN) has no value. -/
theorem test_L1_G_query : queryPorts fcMapDefault 13 = ⟨true, 0xE⟩ ∧ queryPorts fcMapDefault 14 = ⟨false, 0⟩ ∧
    queryPorts fcMapDefault 15 = ⟨false, 0⟩ := by decide

/-- R102: the textual forms of L1-A, L1-B, L1-C1 and L1-D give the bytes the vectors list. -/
theorem test_notation_bytes :
    sdoRxBytes 0x02 0x23 0x1000 0x00 [1, 2, 3, 4] = [0x02, 0x06, 0, 0, 8, 0, 0, 0, 0x23, 0x00, 0x10, 0x00, 1, 2, 3, 4] ∧
    sdoAbortBytes .tx 0x02 0 0 0x06020000 = [0x82, 0x05, 0, 0, 8, 0, 0, 0, 0x80, 0, 0, 0, 0x00, 0x00, 0x02, 0x06] ∧
    extBytes 0x602 8 [0x80] = [0x02, 0x06, 0, 0x80, 8, 0, 0, 0, 0x80, 0, 0, 0, 0, 0, 0, 0] ∧
    nmtBytes 0x81 0x05 = [0, 0, 0, 0, 2, 0, 0, 0, 0x81, 0x05, 0, 0, 0, 0, 0, 0] := by decide

/-! ### Lone words of the table (log entry 10) -/

theorem test_table_words :
    decodeTableWord 8 0x81 = some (.nmtResetApplication 0) ∧ decodeTableWord 8 0x20 = some (.sdoRxDownloadInitiate ⟨0, 0, 0, 0, 0, 0, 0⟩) ∧
    decodeTableWord 32 0x80000000 = some (.isExtended false false 0) ∧ decodeTableWord 32 0x600 = some (.fcCSdoRx 0) ∧
    decodeTableWord 32 0x40000000 = some (.isRemoteRequest false false 0) ∧
    decodeTableWord 32 0x06020000 = some .abort06020000 ∧ decodeTableWord 120 0 = some (.invalidFrameLength 15) := by decide

/-- The row of a lone word is among those the very next step runs. -/
theorem test_fetch_word :
    (fetchRows (ready (State.reset.withFetchWord 32 0x06020000))).contains .abort06020000 = true ∧
    (fetchRows (ready (State.reset.withFetchWord 8 0x81))).contains (.nmtResetApplication 0) = true ∧
    (fetchRows (ready (State.reset.withFetchWord 32 0x600))).contains (.fcCSdoRx 0) = true := by decide

/-! ### Witnesses: states and operands that meet the hypotheses of each statement -/

/-- Vector L1-A. -/
def frameA : List Byte := [0x02, 0x06, 0, 0, 8, 0, 0, 0, 0x23, 0x00, 0x10, 0x00, 1, 2, 3, 4]

/-- Vector L1-B. -/
def frameB : List Byte := [0x82, 0x05, 0, 0, 8, 0, 0, 0, 0x80, 0, 0, 0, 0x00, 0x00, 0x02, 0x06]

/-- An SDO_RX upload initiate that is not expedited, size flag set, n = 3 (byte 0 = 0x4D). -/
def frameSegmented : List Byte := [0x02, 0x06, 0, 0, 8, 0, 0, 0, 0x4D, 0x00, 0x10, 0x00, 1, 2, 3, 4]

/-- An SDO_TX download segment. -/
def frameSegmentTx : List Byte := [0x82, 0x05, 0, 0, 8, 0, 0, 0, 0x20, 0, 0, 0, 0, 0, 0, 0]

/-- An extended frame, a SYNC frame, a PDO1_TX frame, an NMT frame, and NMT and SDO frames that fail. -/
def frameExt : List Byte := [0x02, 0x06, 0, 0x80, 8, 0, 0, 0, 0x80, 0, 0, 0, 0, 0, 0, 0]
def frameSync : List Byte := [0x80, 0, 0, 0, 0, 0, 0, 0, 0, 0, 0, 0, 0, 0, 0, 0]
def framePdo : List Byte := [0x85, 0x01, 0, 0, 8, 0, 0, 0, 1, 2, 3, 4, 5, 6, 7, 8]
def frameNmt : List Byte := [0, 0, 0, 0, 2, 0, 0, 0, 0x82, 0x05, 0, 0, 0, 0, 0, 0]
def frameBadNmt : List Byte := [0, 0, 0, 0, 2, 0, 0, 0, 0x83, 0x05, 0, 0, 0, 0, 0, 0]
def frameBadRx : List Byte := [0x02, 0x06, 0, 0, 8, 0, 0, 0, 0xBF, 0, 0, 0, 0, 0, 0, 0]
def frameBadTx : List Byte := [0x82, 0x05, 0, 0, 8, 0, 0, 0, 0xDF, 0, 0, 0, 0, 0, 0, 0]

/-- A held presentation of a buffer. -/
def held (buf : List Byte) : Sample := heldSample buf 12

/-- A presentation sampled too soon. -/
def early : Sample := { held frameA with dataHeld := false }

/-- The machine after reset with presentations to make. -/
def withPending (ps : List Sample) : State := { State.reset with pending := ps }

theorem witness_default_build : Build.default.Ok := by decide

theorem witness_DecodeOfEncodeIsTheRow :
    (Instr.invalidFrameLength 17).wf = true ∧ (Instr.nmtIllegal 0x83).wf = true ∧ (Instr.isExtended true true 0x1FFFFFFF).wf = true := by
  decide

theorem witness_DecodedRowIsWellFormedInItsFormat :
    decode .frameLen [] = .ok (.invalidFrameLength 0) ∧ decode .nmtB0 [0x00, 0xFF] = .ok (.nmtIllegal 0x00) := by decide

theorem witness_EncodeOfDecodeKeepsEveryReadBit :
    decode .id32Class [0xFF, 0xFF, 0xFF, 0xFF] = .ok (.isExtended true true 0x1FFFFFFF) ∧
    decode .id32Rtr [0, 0, 0, 0x40] = .ok (.isRemoteRequest false false 0) ∧
    decode .id32Err [0, 0, 0, 0x20] = .ok (.isErrorFrame false false 0) ∧
    decode .abort32 [0x24, 0, 0, 0x08] = .ok .abort08000024 ∧
    decode .id32Std [0xFF, 0xFF, 0xFF, 0x7F] = .ok (.fcFUnknown 0x7F) ∧
    (decode .nmtB0 [0x82, 0xFF] = .ok (.nmtResetCommunication 0xFF) ∧ Instr.nmtResetCommunication 0xFF ≠ .nmtIllegal 0x82) ∧
    (decode .sdoB0Rx [0xDF, 0, 0, 0, 0, 0, 0, 0] = .ok (.sdoRxBlockDownload ⟨0x1F, 0, 0, 0, 0, 0, 0⟩) ∧
      ∀ e ∈ illegalSdoRows, Instr.sdoRxBlockDownload ⟨0x1F, 0, 0, 0, 0, 0, 0⟩ ≠ e.2) ∧
    (decode .sdoB0Tx [0xBF, 0, 0, 0, 0, 0, 0, 0] = .ok (.sdoTxBlockDownload ⟨0x1F, 0, 0, 0, 0, 0, 0⟩) ∧
      ∀ e ∈ illegalSdoRows, Instr.sdoTxBlockDownload ⟨0x1F, 0, 0, 0, 0, 0, 0⟩ ≠ e.2) ∧
    (frameA.length = 16 ∧ decode .frameLen frameA = .ok (.parse 0x602 8 ⟨0x23, 0x00, 0x10, 0x00, 1, 2, 3, 4⟩)) := by decide

theorem witness_EveryFieldValueHasItsRow : isStandard 0x7FFFFFFF = true := by decide

theorem witness_ParseCutsEveryField : frameA.length = 16 ∧ ([] : List Byte).length ≠ 16 := by decide

/-- A buffer for each side of each equivalence. -/
theorem witness_FrameRowsAgreeWithParse :
    (∃ raw, parseFrame frameA = .ok raw) ∧ ∃ e, parseFrame [] = .error e := ⟨⟨_, rfl⟩, ⟨_, rfl⟩⟩

theorem witness_PaddingBytesReachNothing :
    AgreeOff [5, 6, 7] frameA [0x02, 0x06, 0, 0, 8, 0xAA, 0x55, 0xFF, 0x23, 0x00, 0x10, 0x00, 1, 2, 3, 4] := by
  refine ⟨rfl, fun k hk => ?_⟩
  match k with
  | 0 | 1 | 2 | 3 | 4 | 8 | 9 | 10 | 11 | 12 | 13 | 14 | 15 => rfl
  | 5 | 6 | 7 => simp at hk
  | _ + 16 => rfl

theorem witness_DeclaredLengthOnlyReachesDlc :
    AgreeOff [4] frameA [0x02, 0x06, 0, 0, 255, 0, 0, 0, 0x23, 0x00, 0x10, 0x00, 1, 2, 3, 4] ∧
      (∃ f, decodedTo Build.default frameA f) ∧ frameA[4]? = some 8 := by
  refine ⟨⟨rfl, fun k hk => ?_⟩, ⟨_, rfl⟩, rfl⟩
  match k with
  | 4 => simp at hk
  | 0 | 1 | 2 | 3 | 5 | 6 | 7 | 8 | 9 | 10 | 11 | 12 | 13 | 14 | 15 => rfl
  | _ + 16 => rfl

/-- A standard frame and an extended one. -/
theorem witness_FlagTestsReadTheirOwnBit :
    (∃ f, decodedTo Build.default frameA f) ∧ ∃ f, decodedTo Build.default frameExt f := ⟨⟨_, rfl⟩, ⟨_, rfl⟩⟩

theorem witness_AddressesAreTheMaskedLowBits :
    (∃ f, decodedTo Build.default frameA f) ∧ ∃ f, decodedTo Build.default frameExt f := ⟨⟨_, rfl⟩, ⟨_, rfl⟩⟩

theorem witness_FunctionCodeAndNodeIdFields :
    (∃ f, decodedTo Build.default frameA f) ∧ isStandard (identOf frameA) = true := ⟨⟨_, rfl⟩, by decide⟩

/-- An NMT frame with other bytes 10 to 15; an initiate frame with another bit 4; a segment frame with other bits 4:0. -/
theorem witness_UnreadPayloadBitsAreIgnored :
    (isStandard (identOf frameNmt) = true ∧ roleOf Build.default frameNmt = .nmtMc ∧
      AgreeOff [10, 11, 12, 13, 14, 15] frameNmt (frameNmt.take 10 ++ [1, 2, 3, 4, 5, 6])) ∧
    (isStandard (identOf frameA) = true ∧ roleOf Build.default frameA = .sdoRx ∧ FirstPayloadByte frameA 0x23 ∧
      FirstPayloadByte (frameA.take 8 ++ [0x33] ++ frameA.drop 9) 0x33 ∧
      AgreeOff [8] frameA (frameA.take 8 ++ [0x33] ++ frameA.drop 9) ∧ (0x23 : Byte) &&& 0xEF = 0x33 &&& 0xEF) ∧
    (roleOf Build.default frameSegmentTx = .sdoTx ∧ FirstPayloadByte frameSegmentTx 0x20 ∧
      FirstPayloadByte (frameSegmentTx.take 8 ++ [0x3F] ++ frameSegmentTx.drop 9) 0x3F ∧
      (0x20 : Byte) &&& 0xE0 = 0x3F &&& 0xE0 ∧ (0x20 : Byte) &&& 0xE0 ∉ [0x60#8, 0x40]) := by
  refine ⟨⟨by decide, by decide, rfl, fun k hk => ?_⟩, ⟨by decide, by decide, rfl, rfl, ⟨rfl, fun k hk => ?_⟩, by decide⟩,
    by decide, rfl, rfl, by decide, by decide⟩
  · match k with
    | 0 | 1 | 2 | 3 | 4 | 5 | 6 | 7 | 8 | 9 => rfl
    | 10 | 11 | 12 | 13 | 14 | 15 => simp at hk
    | _ + 16 => rfl
  · match k with
    | 0 | 1 | 2 | 3 | 4 | 5 | 6 | 7 => rfl
    | 8 => simp at hk
    | _ + 9 => rfl

theorem witness_NodeIdIsLowBitsOfNodeAddress : isStandard 0x1FFFFFFF = true ∧
    (∃ f, decodedTo Build.default frameA f) ∧ isStandard (identOf frameA) = true := ⟨by decide, ⟨_, rfl⟩, by decide⟩

/-- The identifiers differ in RTR and ERR. -/
theorem witness_RtrAndErrTakeNoPartInDispatch :
    AgreeOff [0, 1, 2, 3] frameA ([0x02, 0x06, 0, 0x60] ++ frameA.drop 4) ∧ isStandard (identOf frameA) = true ∧
      identOf frameA &&& 0x9FFFFFFF = identOf ([0x02, 0x06, 0, 0x60] ++ frameA.drop 4) &&& 0x9FFFFFFF := by
  refine ⟨⟨rfl, fun k hk => ?_⟩, by decide, by decide⟩
  match k with
  | 0 | 1 | 2 | 3 => simp at hk
  | _ + 4 => rfl

/-- The identifiers differ in bits 28 and 11. -/
theorem witness_HighStandardBitsAreIgnored :
    AgreeOff [0, 1, 2, 3] frameA ([0x02, 0x0E, 0, 0x10] ++ frameA.drop 4) ∧ isStandard (identOf frameA) = true ∧
      identOf frameA &&& 0xE00007FF = identOf ([0x02, 0x0E, 0, 0x10] ++ frameA.drop 4) &&& 0xE00007FF := by
  refine ⟨⟨rfl, fun k hk => ?_⟩, by decide, by decide⟩
  match k with
  | 0 | 1 | 2 | 3 => simp at hk
  | _ + 4 => rfl

/-- One row for each clause: a PDO role, an opaque role, a role with a payload decoder. -/
theorem witness_FunctionRowsDriveRoleNodeAndSubFrame :
    (0x3, .fc3Pdo1Tx 0x7F) ∈ functionRows 0x7F ∧ resolve State.reset.build.fcMap 0x3 = .pdo1Tx ∧
    (0xF, .fcFUnknown 0x7F) ∈ functionRows 0x7F ∧ resolve State.reset.build.fcMap 0xF = .unknown ∧
    (0xC, .fcCSdoRx 0x7F) ∈ functionRows 0x7F ∧ resolve State.reset.build.fcMap 0xC = .sdoRx := by decide

/-- A legal map, an entry of it, and a raw value with no entry. -/
theorem witness_ResolveFollowsTheTable :
    FcMapOk Build.default.fcMap ∧ (0xE#4, FunctionCode.nmtNodeGuard) ∈ Build.default.fcMap ∧ (∀ e ∈ Build.default.fcMap, e.1 ≠ 0xF) ∧
      (∃ f, decodedTo Build.default frameA f) ∧ isStandard (identOf frameA) = true :=
  ⟨by decide, by decide, by decide, ⟨_, rfl⟩, by decide⟩

theorem witness_DefaultMapGivesEachRowTheRoleOfItsName :
    State.reset.build.fcMap = fcMapDefault ∧ (.fcFUnknown 0x7F, .unknown) ∈ namedRoles 0x7F := by decide

theorem witness_ResolveAndCodeValueRoundTrip :
    FcMapOk fcMapDefault ∧ codeValue fcMapDefault FunctionCode.nmtNodeGuard.tag = some 0xE ∧ resolve fcMapDefault 0xE ≠ .unknown := by
  decide

/-- A tag with an entry (12), and those with none (14 and 15). -/
theorem witness_QueryPortsAnswerTheReverseLookup :
    (∃ t, step (withPending [held frameA]) = .next t) ∧ (held frameA).cvHeld = true ∧ FcMapOk (withPending [held frameA]).build.fcMap ∧
      (0xC#4, FunctionCode.sdoRx) ∈ fcMapDefault ∧ FunctionCode.sdoRx.tag = (held frameA).ports.cvTag ∧
      (∀ e ∈ fcMapDefault, e.2.tag ≠ (heldSample frameA 14).ports.cvTag) ∧
      (∀ e ∈ fcMapDefault, e.2.tag ≠ (heldSample frameA 15).ports.cvTag) := by
  refine ⟨?_, by decide⟩
  exact run_next (fetchRows (ready (withPending [held frameA]))) (ready (withPending [held frameA])) |>.elim fun o h => ⟨_, h⟩

theorem witness_SyncAndEmergencyAreOneRole :
    FcMapOk Build.default.fcMap ∧ (∃ f, decodedTo Build.default frameSync f) ∧ isStandard (identOf frameSync) = true ∧
      (identOf frameSync).extractLsb' 7 4 = 0x1 := by
  refine ⟨by decide, ⟨_, rfl⟩, by decide, by decide⟩

theorem witness_RolePortShowsThePredicates :
    (∃ e, decodeBuffer Build.default frameBadNmt = .error e) ∧ (∃ f, decodedTo Build.default frameSync f) ∧
      (∃ f, decodedTo Build.default frameExt f) ∧ isExtended (identOf frameExt) = true :=
  ⟨⟨_, rfl⟩, ⟨_, rfl⟩, ⟨_, rfl⟩, by decide⟩

theorem witness_NmtRowsDriveCommandAndTarget : (0x82, 4, .nmtResetCommunication 0xFF) ∈ nmtCommandRows 0xFF := by decide

theorem witness_IllegalNmtCommandRaisesWithTheByte :
    (0x00 : Byte) ∉ [0x01#8, 0x02, 0x80, 0x81, 0x82] ∧ (0x83 : Byte) ∉ [0x01#8, 0x02, 0x80, 0x81, 0x82] := by decide

theorem witness_InitiateRowsDriveTheExpeditedFields :
    (3, 0x40, 2, .sdoTxUploadInitiate ⟨0x1F, 0, 0, 1, 2, 3, 4⟩) ∈ initiateRows ⟨0x1F, 0, 0, 1, 2, 3, 4⟩ ∧
      ([1, 2, 3, 4] : List Byte)[3]? = some 4 := by decide

theorem witness_SegmentRowsDriveNoExpeditedField :
    (3, 0xA0, 5, .sdoTxBlockDownload ⟨0x1F, 0, 0, 1, 2, 3, 4⟩) ∈ segmentRows ⟨0x1F, 0, 0, 1, 2, 3, 4⟩ := by decide

/-- A code that hits the last entry, and one that misses. -/
theorem witness_AbortTransferRowsLookUpTheCode :
    AbortTableOk State.reset.build.abortTable ∧
      (3, .sdoTxAbortTransfer ⟨0, 0, 0, 0x24, 0, 0, 8⟩) ∈ abortTransferRows ⟨0, 0, 0, 0x24, 0, 0, 8⟩ ∧
      (State.reset.build.abortTable[30]?).map Prod.fst = some (codeOf ⟨0, 0, 0, 0x24, 0, 0, 8⟩) ∧
      ∀ e ∈ State.reset.build.abortTable, e.1 ≠ codeOf ⟨0, 0, 0, 0x25, 0, 0, 8⟩ := by decide

theorem witness_IllegalSdoCommandRaisesWithCs : (0xC0, .sdoTxIllegalC0) ∈ illegalSdoRows := by decide

/-- Payloads that decode and that fail, in both directions. -/
theorem witness_SdoTagsByDirection :
    (sdoDecode Build.default .rx ⟨0xDF, 0, 0, 0, 0, 0, 0, 0⟩).toOption.isSome = true ∧
    sdoDecode Build.default .rx ⟨0xBF, 0, 0, 0, 0, 0, 0, 0⟩ = .error (.unknownSdoCommand 0xA0) ∧
    (sdoDecode Build.default .tx ⟨0xBF, 0, 0, 0, 0, 0, 0, 0⟩).toOption.isSome = true ∧
    sdoDecode Build.default .tx ⟨0xDF, 0, 0, 0, 0, 0, 0, 0⟩ = .error (.unknownSdoCommand 0xC0) := by decide

theorem witness_ExpeditedCountMatchesTheData :
    ∃ f x, decodedTo Build.default frameA f ∧ sdoFieldsIn f = some x ∧ x.expedited = true := ⟨_, _, rfl, rfl, rfl⟩

theorem witness_SegmentedInitiateCarriesNoData :
    ∃ f x, decodedTo Build.default frameSegmented f ∧ sdoFieldsIn f = some x ∧ FirstPayloadByte frameSegmented 0x4D ∧
      (x.tag = .downloadInitiate ∨ x.tag = .uploadInitiate) ∧ (0x4D : Byte).getLsbD 1 = false :=
  ⟨_, _, rfl, rfl, rfl, .inr rfl, rfl⟩

theorem witness_ExpeditedBytesOverlapTheAbortCode :
    ∃ f x d, decodedTo Build.default frameA f ∧ sdoFieldsIn f = some x ∧ x.expeditedData = some d ∧ d[3]? = some 4 :=
  ⟨_, _, _, rfl, rfl, rfl, rfl⟩

/-- A hit at the last position, and a miss. -/
theorem witness_AbortLookupIsExact :
    AbortTableOk abortTableDefault ∧ (abortTableDefault[30]?).map Prod.fst = some 0x08000024 ∧
      ∀ e ∈ abortTableDefault, e.1 ≠ 0x08000025 := by decide

theorem witness_AbortLookupIsExact_ports : AbortTableOk Build.default.abortTable ∧
    ∃ f x, decodedTo Build.default frameB f ∧ sdoFieldsIn f = some x ∧ x.tag = .abortTransfer :=
  ⟨by decide, _, _, rfl, rfl, rfl⟩

/-- The smallest legal table holds the document's two entries only. -/
theorem witness_DocumentAbortEntriesAlwaysHit : AbortTableOk [toggleBitEntry, noObjectEntry] ∧ AbortTableOk abortTableDefault := by
  decide

theorem witness_AbortRowsLookUpTheirCode :
    AbortTableOk State.reset.build.abortTable ∧ (0x08000024, .abort08000024) ∈ abortCodeRows := by decide

theorem witness_DefaultTableHitsEveryRowAtItsIndex :
    State.reset.build.abortTable = abortTableDefault ∧ abortCodeRows[30]? = some (0x08000024, .abort08000024) := by decide

/-- Code 0x06030000 is in no entry. -/
theorem witness_AbortTableMissIsNoError :
    let buf : List Byte := [0x82, 0x05, 0, 0, 8, 0, 0, 0, 0x9F, 0, 0, 0, 0x00, 0x00, 0x03, 0x06]
    buf.length = 16 ∧ isStandard (identOf buf) = true ∧ roleOf Build.default buf = .sdoTx ∧ FirstPayloadByte buf 0x9F ∧
      (0x9F : Byte) &&& 0xE0 = 0x80 ∧ ∀ e ∈ Build.default.abortTable, e.1 ≠ memRead buf 12 4 :=
  ⟨rfl, by decide, by decide, rfl, by decide, by decide⟩

theorem witness_OnlyAbortTransferHasAnEntry :
    ∃ x, sdoDecode Build.default .rx ⟨0x80, 0, 0, 0, 0, 0, 2, 6⟩ = .ok x ∧ x.tag = .abortTransfer := ⟨_, rfl, rfl⟩

/-- One buffer for each clause of the map. -/
theorem witness_DecodeFollowsTheMap :
    (parseFrame frameExt).toOption.map (fun r => r.identifier.getLsbD 31) = some true ∧
    (parseFrame frameBadNmt).toOption.map (fun r => (r.identifier.getLsbD 31, resolve fcMapDefault (r.identifier.extractLsb' 7 4),
      r.payload.p0)) = some (false, .nmtMc, 0x83) ∧
    (parseFrame frameNmt).toOption.map (fun r => (resolve fcMapDefault (r.identifier.extractLsb' 7 4), r.payload.p0)) =
      some (.nmtMc, 0x82) ∧
    (parseFrame frameBadRx).toOption.map (fun r => (resolve fcMapDefault (r.identifier.extractLsb' 7 4), r.payload.p0 &&& 0xE0)) =
      some (.sdoRx, 0xA0) ∧
    (parseFrame frameA).toOption.map (fun r => (resolve fcMapDefault (r.identifier.extractLsb' 7 4),
      (sdoDecode Build.default .rx r.payload).toOption.isSome)) = some (.sdoRx, true) ∧
    (parseFrame frameBadTx).toOption.map (fun r => (resolve fcMapDefault (r.identifier.extractLsb' 7 4), r.payload.p0 &&& 0xE0)) =
      some (.sdoTx, 0xC0) ∧
    (parseFrame frameB).toOption.map (fun r => (resolve fcMapDefault (r.identifier.extractLsb' 7 4),
      (sdoDecode Build.default .tx r.payload).toOption.isSome)) = some (.sdoTx, true) ∧
    (parseFrame framePdo).toOption.map (fun r => resolve fcMapDefault (r.identifier.extractLsb' 7 4)) = some .pdo1Tx ∧
    (parseFrame frameSync).toOption.map (fun r => resolve fcMapDefault (r.identifier.extractLsb' 7 4)) = some .syncEmcy := by decide

theorem witness_ExtendedFrameNeverRaises : frameExt.length = 16 ∧ isExtended (identOf frameExt) = true := by decide

/-- A buffer for each of the three errors. -/
theorem witness_DecodeFailsOnlyInThreeWays :
    decodeBuffer Build.default [] = .error .invalidFrameLength ∧
    decodeBuffer Build.default frameBadNmt = .error (.unknownNmtCommand 0x83) ∧
    decodeBuffer Build.default frameBadRx = .error (.unknownSdoCommand 0xA0) ∧
    decodeBuffer Build.default frameBadTx = .error (.unknownSdoCommand 0xC0) := by decide

/-- A buffer for each status code, its first payload byte, and the status it shows. -/
theorem witness_StatusCodesAndTheirCauses :
    (FirstPayloadByte frameA 0x23 ∧ (portsOf true (decodeBuffer Build.default frameA)).status = 0) ∧
    (([] : List Byte).length ≠ 16 ∧ (portsOf true (decodeBuffer Build.default [])).status = 1) ∧
    (FirstPayloadByte frameBadNmt 0x83 ∧ (portsOf true (decodeBuffer Build.default frameBadNmt)).status = 3) ∧
    (FirstPayloadByte frameBadTx 0xDF ∧ (portsOf true (decodeBuffer Build.default frameBadTx)).status = 4) :=
  ⟨⟨rfl, rfl⟩, ⟨by decide, rfl⟩, ⟨rfl, rfl⟩, ⟨rfl, rfl⟩⟩

/-- An error; a frame with nothing absent but data and entry; a frame with everything absent. -/
theorem witness_AbsentValuesReadZero :
    decodeBuffer Build.default frameBadNmt = .error (.unknownNmtCommand 0x83) ∧
    (∃ f x, decodedTo Build.default frameSegmented f ∧ sdoFieldsIn f = some x ∧ x.expeditedData = none ∧ x.abortEntry = none) ∧
    (∃ f, decodedTo Build.default frameExt f ∧ f.functionCode = none ∧ f.nodeId = none) :=
  ⟨rfl, ⟨_, _, rfl, rfl, rfl, rfl⟩, ⟨_, rfl, rfl, rfl⟩⟩

theorem witness_ReservedCodesAreNeverProduced : FcMapOk Build.default.fcMap := by decide

theorem witness_StepRunsTheDecodedRows :
    (withPending [held frameA]).pending = [held frameA] ∧ Held (held frameA) ∧ (ready (withPending [held frameA])).dataHeld = true ∧
      fetchRows (ready (withPending [held frameA])) = [.parse 0x602 8 ⟨0x23, 0x00, 0x10, 0x00, 1, 2, 3, 4⟩, .isStandard false false 0x602,
        .fcCSdoRx 0x02, .sdoRxDownloadInitiate ⟨0x03, 0x1000, 0, 1, 2, 3, 4⟩] ∧
      ∃ t, exec (.parse 0x602 8 ⟨0x23, 0x00, 0x10, 0x00, 1, 2, 3, 4⟩) (ready (withPending [held frameA])) = .next t :=
  ⟨rfl, ⟨rfl, rfl⟩, rfl, by decide, ⟨_, rfl⟩⟩

/-- A presentation of a whole frame, and one of a buffer of one byte. -/
theorem witness_StepDrivesTheProjectionOfDecode :
    (withPending [held frameA]).pending = [held frameA] ∧ (held frameA).dataHeld = true ∧ (held frameA).ports.Presents frameA ∧
      (held [0x55]).ports.Presents [0x55] := by
  refine ⟨rfl, rfl, ⟨rfl, fun k b hk hb => ?_⟩, ⟨rfl, fun k b hk hb => ?_⟩⟩
  · have h : ∀ k : Fin 16, frameA[k.val]? = some (laneOf (held frameA).ports.inData k.val) := by decide
    exact Option.some.inj ((h ⟨k, hk⟩).symm.trans hb)
  · match k with
    | 0 => exact Option.some.inj ((by decide : some (laneOf (held [0x55]).ports.inData 0) = some 0x55).trans hb)
    | k + 1 => cases hb

theorem witness_StepKeepsTheInvariant : State.reset.build.Ok ∧ State.reset.inp.fits State.reset.build ∧ State.reset.pending = [] ∧
    State.reset.out = portsOf State.reset.inp.inValid (State.reset.inp.decoded State.reset.build) ∧
    State.reset.cv = queryPorts State.reset.build.fcMap State.reset.inp.cvTag ∧ ∃ t, step State.reset = .next t :=
  ⟨by decide, by decide, rfl, rfl, rfl, ⟨_, rfl⟩⟩

theorem witness_OutputsForgetThePast :
    Held (held frameExt) ∧ (withPending [held frameExt]).build = (withPending [held frameExt, held frameA]).build ∧
      (∃ t, step (withPending [held frameExt]) = .next t) ∧ ∃ t, step (withPending [held frameExt, held frameA]) = .next t :=
  ⟨⟨rfl, rfl⟩, rfl, ⟨_, rfl⟩, ⟨_, rfl⟩⟩

theorem witness_ResultsFollowThePresentations :
    (∀ q ∈ (withPending [held frameA, held frameB]).pending, Held q) ∧
      (withPending [held frameA, held frameB]).pending[1]? = some (held frameB) := by
  refine ⟨fun q hq => ?_, rfl⟩
  simp only [withPending, List.mem_cons, List.not_mem_nil, or_false] at hq
  rcases hq with rfl | rfl <;> exact ⟨rfl, rfl⟩

/-- A step that decodes an SDO frame: the abort-code clause applies too. -/
theorem witness_PortsCarryTheInputLanes :
    (held frameA).dataHeld = true ∧ ∃ t, step (withPending [held frameA]) = .next t ∧ t.out.status = 0 ∧ t.out.subKind = 2 :=
  ⟨rfl, _, rfl, by decide, by decide⟩

/-- One byte, with two different don't-care lanes behind it. -/
theorem witness_DontCareLanesReachNothing :
    InPorts.Presents ⟨true, 1, 0x55, 0⟩ [0x55] ∧ InPorts.Presents ⟨true, 1, 0xFF55, 0⟩ [0x55] := by
  refine ⟨⟨rfl, fun k b hk hb => ?_⟩, ⟨rfl, fun k b hk hb => ?_⟩⟩ <;> match k with
    | 0 => exact Option.some.inj ((by decide : some _ = some (0x55 : Byte)).trans hb)
    | k + 1 => cases hb

theorem witness_EarlySampleShowsAFreeValue : (withPending [early]).pending = [early] ∧ early.dataHeld = false ∧ early.cvHeld = true :=
  ⟨rfl, rfl, rfl⟩

theorem witness_HeldInputsKeepTheirOutputs : State.reset.pending = [] := rfl

end Sys2Proof.Tests
end

section
/-! The ports of a decode result whose values are absent (R46), and the statement about them. -/

namespace Sys2Proof

open Sys2Proof.Claims

/-- No error's status code is the code 0 of a frame (R230). -/
theorem DecodeError.code_ne_zero (e : DecodeError) : e.code ≠ 0 := by
  cases e <;> simp [DecodeError.code]

/-- The ports of an error, in the form in which the statements write them out. -/
theorem portsOf_error (v : Bool) (e : DecodeError) : portsOf v (.error e) = errorOut v e.code e.value := rfl

/-- The ports of a buffer that decodes are those of its frame. -/
theorem portsOf_of_decodedTo (v : Bool) {b : Build} {buf : List Byte} {f : CanOpenFrame} (h : decodedTo b buf f) :
    portsOf v (decodeBuffer b buf) = framePorts v f := by
  rw [decodedTo] at h
  rw [h, portsOf]

/-- Only a sub-frame of kind 1 drives the NMT ports. -/
theorem OutPorts.nmtPorts_putSub_of_kind_ne (o : OutPorts) {s : SubFrame} (h : s.kind ≠ 1) :
    nmtPorts (o.putSub s) = nmtPorts OutPorts.zero := by
  cases s with
  | nmtMasterControl c t => exact absurd rfl h
  | unknown | sdoRx | sdoTx | pdoOpaque => rfl

/-- Only a sub-frame of kind 2 or 3 drives the SDO and abort ports. -/
theorem OutPorts.sdoPorts_putSub_of_kind_ne (o : OutPorts) {s : SubFrame} (h2 : s.kind ≠ 2) (h3 : s.kind ≠ 3) :
    sdoPorts (o.putSub s) = sdoPorts OutPorts.zero ∧ abortPorts (o.putSub s) = abortPorts OutPorts.zero := by
  cases s with
  | sdoRx x => exact absurd rfl h2
  | sdoTx x => exact absurd rfl h3
  | unknown | nmtMasterControl | pdoOpaque => exact ⟨rfl, rfl⟩

/-- The frames that carry SDO fields are those with an SDO sub-frame. -/
theorem sdoFieldsIn_eq_some {f : CanOpenFrame} {x : SdoFields} (h : sdoFieldsIn f = some x) :
    f.subFrame = .sdoRx x ∨ f.subFrame = .sdoTx x := by
  cases hs : f.subFrame with
  | sdoRx y => exact .inl (by simpa [sdoFieldsIn, hs] using h)
  | sdoTx y => exact .inr (by simpa [sdoFieldsIn, hs] using h)
  | unknown | nmtMasterControl | pdoOpaque => simp [sdoFieldsIn, hs] at h

/-- The data and entry ports of a frame with SDO fields are those of its fields. -/
theorem framePorts_of_sdoFieldsIn (v : Bool) {f : CanOpenFrame} {x : SdoFields} (h : sdoFieldsIn f = some x) :
    (framePorts v f).sdoDataValid = x.expeditedData.isSome ∧ (framePorts v f).sdoData = sdoDataPort x.expeditedData ∧
      (framePorts v f).abortHit = x.abortEntry.isSome ∧
      (framePorts v f).abortIdx = BitVec.ofNat 5 (x.abortEntry.getD 0) := by
  obtain hs | hs := sdoFieldsIn_eq_some h <;> rw [framePorts, hs] <;> exact ⟨rfl, rfl, rfl, rfl⟩

/-- The function-code ports of a frame without a function code. -/
theorem framePorts_of_functionCode_none (v : Bool) {f : CanOpenFrame} (h : f.functionCode = none) :
    (framePorts v f).fcValid = false ∧ (framePorts v f).fcRaw = 0 ∧ (framePorts v f).fcTag = 0 ∧
      (framePorts v f).role = 0 := by
  simp [framePorts, h, OutPorts.putFunction, roleBits]

/-- The node-id ports of a frame without a node id. -/
theorem framePorts_of_nodeId_none (v : Bool) {f : CanOpenFrame} (h : f.nodeId = none) :
    (framePorts v f).nodeIdValid = false ∧ (framePorts v f).nodeId = 0 := by
  simp [framePorts, h, OutPorts.putFunction]

/-- `sub_kind` is the kind of the frame's sub-frame. -/
theorem framePorts_subKind (v : Bool) (f : CanOpenFrame) : (framePorts v f).subKind = f.subFrame.kind := by
  simp [framePorts]

/-- Settles O48: the ports of an error are written out by `errorOut`; on a frame, each absent value is one lemma about
`framePorts`. -/
theorem absentValuesReadZero : Obligations.AbsentValuesReadZero := by
  intro b v buf
  refine ⟨fun e he => ?_, fun f hf => ?_⟩
  · rw [he, portsOf_error]
    exact ⟨rfl, e.code_ne_zero⟩
  · rw [portsOf_of_decodedTo v hf]
    obtain ⟨hstatus, hvalue⟩ := framePorts_status v f
    refine ⟨hstatus, hvalue, framePorts_of_functionCode_none v, framePorts_of_nodeId_none v, ?_, ?_, fun x hx => ?_⟩
    · rw [framePorts_subKind]
      exact OutPorts.nmtPorts_putSub_of_kind_ne _
    · rw [framePorts_subKind]
      exact OutPorts.sdoPorts_putSub_of_kind_ne _
    · obtain ⟨hvalid, hdata, hhit, hidx⟩ := framePorts_of_sdoFieldsIn v hx
      exact ⟨fun h => by simp [hvalid, hdata, h, sdoDataPort, leAssemble], fun h => by simp [hhit, hidx, h]⟩

end Sys2Proof
end

section
/-! A step forgets what the outputs showed before (R30, R43, R237): the first row a buffer matches drives every port anew, and
the rows after it read only the tables, the input ports and the ports driven so far. -/

namespace Sys2Proof.Machine

open Sys2Proof.Claims

/-- The rows a buffer matches begin with a row of FRAME_LEN (R91 step 1). -/
theorem decodeRows_head (b : Build) (len : Nat) (buf : List Byte) :
    ∃ i rows, decodeRows b len buf = i :: rows ∧ i.format = .frameLen := by
  unfold decodeRows
  split
  · exact ⟨_, _, rfl, rfl⟩
  · refine ⟨decodeFrameLen buf, _, rfl, ?_⟩
    unfold decodeFrameLen
    split <;> rfl

/-- A row of FRAME_LEN drives every port anew: what it drives depends on the input ports only. -/
theorem exec_frameLen_agree {i : Instr} (hi : i.format = .frameLen) {s t : State} (hinp : s.inp = t.inp) :
    ∃ o, exec i s = .next { s with out := o } ∧ exec i t = .next { t with out := o } := by
  cases i with
  | parse id dlc payload => exact ⟨OutPorts.ofRaw s.inp.inValid ⟨id, dlc, payload⟩, rfl, by rw [hinp]; rfl⟩
  | invalidFrameLength len => exact ⟨OutPorts.ofError s.inp.inValid .invalidFrameLength, rfl, by rw [hinp]; rfl⟩
  | _ => cases hi

/-- Two states with the same tables, input ports and decode outputs: all that the meaning of a row reads. -/
structure AgreeForRows (s t : State) : Prop where
  build : s.build = t.build
  inp : s.inp = t.inp
  out : s.out = t.out

/-- A row drives the same outputs from two states that agree in all it reads. -/
theorem exec_agree (i : Instr) {s t : State} (h : AgreeForRows s t) :
    ∃ o, exec i s = .next { s with out := o } ∧ exec i t = .next { t with out := o } := by
  obtain ⟨hbuild, hinp, hout⟩ := h
  cases s
  cases t
  cases hbuild
  cases hinp
  cases hout
  cases i <;> exact ⟨_, rfl, rfl⟩

/-- The same of a list of rows. -/
theorem run_agree (rows : List Instr) {s t : State} (h : AgreeForRows s t) :
    ∃ o, run rows s = .next { s with out := o } ∧ run rows t = .next { t with out := o } := by
  induction rows generalizing s t with
  | nil => exact ⟨s.out, rfl, by rw [h.out]; rfl⟩
  | cons i rows ih =>
    obtain ⟨o, hs, ht⟩ := exec_agree i h
    rw [run_cons hs, run_cons ht]
    exact ih ⟨h.build, h.inp, rfl⟩

/-- The rows of one buffer drive the same outputs whatever the outputs showed before: the first of them drives every port. -/
theorem run_decodeRows_agree (b : Build) (len : Nat) (buf : List Byte) {s t : State} (hbuild : s.build = t.build)
    (hinp : s.inp = t.inp) :
    ∃ o, run (decodeRows b len buf) s = .next { s with out := o } ∧
      run (decodeRows b len buf) t = .next { t with out := o } := by
  obtain ⟨i, rows, hrows, hi⟩ := decodeRows_head b len buf
  obtain ⟨o, hs, ht⟩ := exec_frameLen_agree hi hinp
  rw [hrows, run_cons hs, run_cons ht]
  exact run_agree rows ⟨hbuild, hinp, rfl⟩

/-- A step whose presentation is held for the decode path runs the rows of the presented buffer. -/
theorem step_of_dataHeld {s : State} {p : Sample} {rest : List Sample} (hp : s.pending = p :: rest)
    (hd : p.dataHeld = true) :
    step s = run (decodeRows s.build p.ports.inLen (lanes p.ports.inData)) (ready s) := by
  simp [step, sampleStep, fetchRows, present_cons s hp, hd]

/-- The query outputs that stand ready for the rows, when `cv_tag` is held (R48). -/
theorem ready_cv_of_cvHeld {s : State} {p : Sample} {rest : List Sample} (hp : s.pending = p :: rest)
    (hc : p.cvHeld = true) : (ready s).cv = queryPorts s.build.fcMap p.ports.cvTag := by
  simp [ready_cons hp, hc]

/-- Settles O55: the two steps run one list of rows from two states with equal tables and input ports. -/
theorem outputsForgetThePast : Obligations.OutputsForgetThePast := by
  intro s1 s2 t1 t2 p r1 r2 hp1 hp2 ⟨hdata, hcv⟩ hbuild hstep1 hstep2
  have hinp : (ready s1).inp = (ready s2).inp := by simp [present_cons _ hp1, present_cons _ hp2]
  obtain ⟨o, hrun1, hrun2⟩ := run_decodeRows_agree s1.build p.ports.inLen (lanes p.ports.inData)
    (s := ready s1) (t := ready s2) (by simpa using hbuild) hinp
  rw [step_of_dataHeld hp1 hdata, hrun1] at hstep1
  rw [step_of_dataHeld hp2 hdata, ← hbuild, hrun2] at hstep2
  cases hstep1
  cases hstep2
  refine ⟨rfl, ?_⟩
  calc (ready s1).cv = queryPorts s1.build.fcMap p.ports.cvTag := ready_cv_of_cvHeld hp1 hcv
    _ = queryPorts s2.build.fcMap p.ports.cvTag := by rw [hbuild]
    _ = (ready s2).cv := (ready_cv_of_cvHeld hp2 hcv).symm

end Sys2Proof.Machine
end

section
/-! The frame a buffer decodes to, field by field: what is read of the buffer (R61 to R64), which part of DECODE each field
comes from, and the statements about the declared length and the overlapping SDO bytes. -/

namespace Sys2Proof

open Sys2Proof.Claims

/-- R11: a read sees the bytes at its own offsets and no other. -/
theorem memRead_congr {x y : List Byte} {a n : Nat} (h : ∀ i < n, x[a + i]? = y[a + i]?) :
    memRead x a n = memRead y a n := by
  have : (x.drop a).take n = (y.drop a).take n := by
    apply List.ext_getElem?
    intro i
    by_cases hi : i < n
    · simp [hi, h i hi]
    · simp [hi]
  rw [memRead, memRead, this]

/-- R63: byte `k` of assembled bytes. -/
theorem leAssemble_extractLsb'_byte {w k : Nat} {bs : List Byte} {v : Byte} (hv : bs[k]? = some v) (hk : 8 * k + 8 ≤ w) :
    (leAssemble w bs).extractLsb' (8 * k) 8 = v := by
  apply BitVec.eq_of_getLsbD_eq
  intro j hj
  rw [BitVec.getLsbD_extractLsb', leAssemble_getLsbD _ _ _ (by omega)]
  simp [hj, hv, show (8 * k + j) / 8 = k by omega, show (8 * k + j) % 8 = j by omega]

/-! ### Where the fields of a decoded frame come from -/

/-- The fields of a RawFrame that was parsed are reads of the buffer at their offsets (R61, R111 to R114). -/
theorem parseFrame_reads {buf : List Byte} {raw : RawFrame} (h : parseFrame buf = .ok raw) :
    raw.identifier = memRead buf 0 4 ∧ raw.declaredLength = memRead buf 4 1 ∧ raw.payload.port = memRead buf 8 8 ∧
      sdoAbortCode raw.payload = memRead buf 12 4 := by
  have hlen : buf.length = 16 := by
    by_contra hlen
    simp [parseFrame, hlen] at h
  obtain ⟨x0, x1, x2, x3, x4, x5, x6, x7, x8, x9, x10, x11, x12, x13, x14, x15, rfl⟩ := exists_of_length_sixteen hlen
  simp only [parseFrame, hlen, ne_eq, not_true_eq_false, if_false, Except.ok.injEq] at h
  subst h
  simp [memRead, Payload.port, Payload.bytes, sdoAbortCode, pRead]

/-- Every frame DECODE answers: an extended one (R202), or a standard one with the sub-frame of its role (R203). -/
theorem decodeRaw_ok {b : Build} {raw : RawFrame} {f : CanOpenFrame} (h : decodeRaw b raw = .ok f) :
    (isExtended raw.identifier = true ∧
      f = { raw := raw, functionCode := none, nodeId := none, subFrame := .unknown raw.payload }) ∨
    (isExtended raw.identifier = false ∧
      ∃ sub, subFrameOf b (resolve b.fcMap (fcRaw raw.identifier)) raw.payload = .ok sub ∧
        f = { raw := raw, functionCode := some (resolve b.fcMap (fcRaw raw.identifier)),
              nodeId := some (canopenNodeId raw.identifier), subFrame := sub }) := by
  cases hext : isExtended raw.identifier with
  | true =>
    rw [decodeRaw_extended hext] at h
    exact .inl ⟨rfl, (Except.ok.inj h).symm⟩
  | false =>
    rw [decodeRaw_standard hext] at h
    cases hsub : subFrameOf b (resolve b.fcMap (fcRaw raw.identifier)) raw.payload with
    | error e => simp [hsub, Except.map] at h
    | ok sub =>
      rw [hsub] at h
      exact .inr ⟨rfl, sub, rfl, (Except.ok.inj h).symm⟩

/-- DECODE keeps the parsed fields (R200). -/
theorem decodeRaw_raw {b : Build} {raw : RawFrame} {f : CanOpenFrame} (h : decodeRaw b raw = .ok f) : f.raw = raw := by
  obtain ⟨-, rfl⟩ | ⟨-, sub, -, rfl⟩ := decodeRaw_ok h <;> rfl

/-- A buffer that decodes parses to the RawFrame of its frame, and DECODE goes on from there. -/
theorem parse_of_decodedTo {b : Build} {buf : List Byte} {f : CanOpenFrame} (h : decodedTo b buf f) :
    parseFrame buf = .ok f.raw ∧ decodeRaw b f.raw = .ok f := by
  cases hp : parseFrame buf with
  | error e => simp [decodedTo, decodeBuffer, hp] at h
  | ok raw =>
    rw [decodedTo, decodeBuffer_of_parse hp] at h
    rw [decodeRaw_raw h]
    exact ⟨rfl, h⟩

/-- The fields in the sub-frame of a direction are those SDO_DECODE answered. -/
theorem sdoDecode_of_map_sdoSub {b : Build} {dir : Direction} {p : Payload} {sub : SubFrame} {x : SdoFields}
    (h : (sdoDecode b dir p).map (Machine.sdoSub dir) = .ok sub) (hx : sub = .sdoRx x ∨ sub = .sdoTx x) :
    sdoDecode b dir p = .ok x := by
  cases hd : sdoDecode b dir p with
  | error e => simp [hd, Except.map] at h
  | ok y =>
    rw [hd] at h
    cases h
    cases dir <;> simpa [Machine.sdoSub] using hx

/-- The sub-frame of a frame that carries SDO fields was made by SDO_DECODE (R203). -/
theorem sdoDecode_of_subFrameOf {b : Build} {role : FunctionCode} {p : Payload} {sub : SubFrame} {x : SdoFields}
    (h : subFrameOf b role p = .ok sub) (hx : sub = .sdoRx x ∨ sub = .sdoTx x) : ∃ dir, sdoDecode b dir p = .ok x := by
  cases role with
  | sdoRx => exact ⟨.rx, sdoDecode_of_map_sdoSub h hx⟩
  | sdoTx => exact ⟨.tx, sdoDecode_of_map_sdoSub h hx⟩
  | nmtMc =>
    simp only [subFrameOf, nmtDecode] at h
    split at h <;> cases h
    simp at hx
  | _ =>
    cases h
    simp at hx

/-- The SDO fields of a decoded frame are what SDO_DECODE makes of its payload (R203). -/
theorem sdoDecode_of_decodedTo {b : Build} {buf : List Byte} {f : CanOpenFrame} {x : SdoFields} (h : decodedTo b buf f)
    (hx : sdoFieldsIn f = some x) : ∃ dir, sdoDecode b dir f.raw.payload = .ok x := by
  obtain ⟨-, hraw⟩ := parse_of_decodedTo h
  have hsub := sdoFieldsIn_eq_some hx
  obtain ⟨-, hf⟩ | ⟨-, sub, hsubOf, hf⟩ := decodeRaw_ok hraw
  · rw [hf] at hsub
    simp at hsub
  · rw [hf] at hsub
    exact sdoDecode_of_subFrameOf hsubOf hsub

/-- The RawFrame ports of a frame. -/
theorem framePorts_raw (v : Bool) (f : CanOpenFrame) :
    (framePorts v f).id = f.raw.identifier ∧ (framePorts v f).dlc = f.raw.declaredLength ∧
      (framePorts v f).payload = f.raw.payload.port := by
  simp [framePorts, OutPorts.ofRaw]

/-! ### The declared length -/

/-- A RawFrame with another declared length. -/
def RawFrame.withDlc (d : Byte) (raw : RawFrame) : RawFrame := { raw with declaredLength := d }

/-- A frame with another declared length. -/
def CanOpenFrame.withDlc (d : Byte) (f : CanOpenFrame) : CanOpenFrame := { f with raw := f.raw.withDlc d }

/-- PARSE reads byte 4 into the declared length and nowhere else (R115). -/
theorem parseFrame_of_agreeOff_dlc {x y : List Byte} (h : AgreeOff [4] x y) :
    parseFrame y = (parseFrame x).map (RawFrame.withDlc (memRead y 4 1)) := by
  obtain ⟨hlen, hbytes⟩ := h
  have hread (a n : Nat) (ha : a + n ≤ 4 ∨ 4 < a) : memRead y a n = memRead x a n :=
    memRead_congr fun i hi => (hbytes (a + i) (by simp; omega)).symm
  by_cases hx : x.length = 16
  · simp [parseFrame, ← hlen, hx, Except.map, RawFrame.withDlc, hread]
  · simp [parseFrame, ← hlen, hx, Except.map]

/-- DECODE passes the declared length through and decides nothing by it (R68). -/
theorem decodeRaw_withDlc (b : Build) (d : Byte) (raw : RawFrame) :
    decodeRaw b (raw.withDlc d) = (decodeRaw b raw).map (CanOpenFrame.withDlc d) := by
  cases hext : isExtended raw.identifier with
  | true => rw [decodeRaw_extended hext, decodeRaw_extended (raw := raw.withDlc d) hext]; rfl
  | false =>
    rw [decodeRaw_standard hext, decodeRaw_standard (raw := raw.withDlc d) hext]
    show (subFrameOf b (resolve b.fcMap (fcRaw raw.identifier)) raw.payload).map _ = _
    cases subFrameOf b (resolve b.fcMap (fcRaw raw.identifier)) raw.payload <;> rfl

/-- The declared length of a frame reaches the `dlc` port and no other. -/
theorem blankDlc_framePorts_withDlc (v : Bool) (d : Byte) (f : CanOpenFrame) :
    blankDlc (framePorts v (f.withDlc d)) = blankDlc (framePorts v f) := by
  obtain ⟨raw, fc, node, sub⟩ := f
  cases sub <;> rfl

/-- Settles O11: PARSE, DECODE and the projection to the ports each pass the declared length through. -/
theorem declaredLengthOnlyReachesDlc : Obligations.DeclaredLengthOnlyReachesDlc := by
  intro b v x y hxy
  refine ⟨?_, fun f d hf hd => ?_⟩
  · have hparse := parseFrame_of_agreeOff_dlc hxy
    cases hx : parseFrame x with
    | error e => simp [decodeBuffer, hparse, hx, Except.map]
    | ok raw =>
      rw [hx] at hparse
      rw [decodeBuffer_of_parse hx, decodeBuffer_of_parse hparse, decodeRaw_withDlc]
      cases decodeRaw b raw with
      | error e => rfl
      | ok f => exact (blankDlc_framePorts_withDlc v _ f).symm
  · obtain ⟨hparse, -⟩ := parse_of_decodedTo hf
    obtain ⟨-, hread, -, -⟩ := parseFrame_reads hparse
    obtain ⟨-, hport, -⟩ := framePorts_raw v f
    have hdlc : f.raw.declaredLength = d := hread.trans (memRead_one hd)
    rw [portsOf_of_decodedTo v hf]
    exact ⟨hdlc, hport.trans hdlc⟩

/-- Settles O37: the data are the first of payload bytes 4 to 7 (R178), and the abort code is those four bytes (R179). -/
theorem expeditedBytesOverlapTheAbortCode : Obligations.ExpeditedBytesOverlapTheAbortCode := by
  intro b buf f x d k v hf hx hd hv
  obtain ⟨dir, hdec⟩ := sdoDecode_of_decodedTo hf hx
  obtain ⟨tag, -, rfl⟩ := sdoDecode_ok hdec
  have hdata : [f.raw.payload.p4, f.raw.payload.p5, f.raw.payload.p6, f.raw.payload.p7][k]? = some v := by
    simp only [sdoData] at hd
    split at hd
    · rw [← Option.some.inj hd, List.getElem?_take] at hv
      split at hv
      · exact hv
      · cases hv
    · cases hd
  have hk : k < 4 := (List.getElem?_eq_some_iff.1 hdata).1
  exact (leAssemble_extractLsb'_byte hdata (by omega)).symm

end Sys2Proof
end

section
/-! Running the rows of a buffer drives the projection of DECODE (R45, R46, R91, R200): one lemma per group of rows of the
decode map, in its order, each saying what that group drives. -/

namespace Sys2Proof

/-! ### The bytes of a buffer and of a field -/

/-- The four bytes of an ID32 or ABORT32 field are read as one number (R63). -/
theorem word32Of_of_length {bytes : List Byte} (h : bytes.length = 4) (f : BitVec 32 → Except DecodeReject Instr) :
    word32Of bytes f = f (leAssemble 32 bytes) := by
  match bytes, h with
  | [_, _, _, _], _ => rfl

/-- The row of a field that decodes. -/
theorem rowOf_of_decode {f : Format} {bytes : List Byte} {i : Instr} (h : decode f bytes = .ok i) :
    rowOf f bytes = [i] := by
  simp [rowOf, h]

/-- A field that is rejected has no row. -/
theorem rowOf_of_reject {f : Format} {bytes : List Byte} {e : DecodeReject} (h : decode f bytes = .error e) :
    rowOf f bytes = [] := by
  simp [rowOf, h]

/-- A 16-byte buffer parses to its identifier field, byte 4 and payload window, and matches the PARSE row (R61, R110). -/
theorem parse_of_length_sixteen {buf : List Byte} (h : buf.length = 16) :
    ∃ raw, parseFrame buf = .ok raw ∧
      decode .frameLen buf = .ok (.parse raw.identifier raw.declaredLength raw.payload) ∧
      (buf.take 4).length = 4 ∧ leAssemble 32 (buf.take 4) = raw.identifier ∧
      (buf.drop 8).take 8 = raw.payload.bytes := by
  obtain ⟨x0, x1, x2, x3, x4, x5, x6, x7, x8, x9, x10, x11, x12, x13, x14, x15, rfl⟩ := exists_of_length_sixteen h
  refine ⟨⟨leAssemble 32 [x0, x1, x2, x3], x4, ⟨x8, x9, x10, x11, x12, x13, x14, x15⟩⟩, ?_, rfl, rfl, rfl, rfl⟩
  simp [parseFrame, memRead]

/-! ### The identifier fields -/

/-- The address bits are the low 29 of the identifier (R81). -/
theorem addr29_eq_setWidth (id : Ident) : addr29 id = id.setWidth 29 := BitVec.eq_of_toNat_eq rfl

/-- The masked addresses are taken from bits 28:0 of the identifier (R126 to R128). -/
theorem addr29_fields (id : Ident) :
    extAddress id = addr29 id ∧ errBits id = addr29 id ∧ stdAddress id = (addr29 id).setWidth 11 := by
  have h29 : (id &&& 0x1FFFFFFF).setWidth 29 = addr29 id := by
    rw [BitVec.setWidth_and, show (0x1FFFFFFF : Ident).setWidth 29 = BitVec.allOnes 29 by decide, BitVec.and_allOnes,
      addr29_eq_setWidth]
  refine ⟨h29, h29, ?_⟩
  rw [stdAddress, stdMask, BitVec.setWidth_and, show (0x7FF : Ident).setWidth 11 = BitVec.allOnes 11 by decide,
    BitVec.and_allOnes, addr29_eq_setWidth, BitVec.setWidth_setWidth_of_le _ (by decide)]

/-- The ports that the RawFrame and the identifier drive, before any function code or sub-frame (R45). -/
def identifierPorts (valid : Bool) (raw : RawFrame) : OutPorts :=
  { OutPorts.ofRaw valid raw with
    fExt := isExtended raw.identifier
    fStd := isStandard raw.identifier
    fRtr := isRemoteRequest raw.identifier
    fErr := isErrorFrame raw.identifier
    nodeAddr := nodeAddress raw.identifier
    stdAddr := stdAddress raw.identifier
    extAddr := extAddress raw.identifier
    errBits := errBits raw.identifier }

/-- The ports of a frame: the identifier's, then the function code's, then the sub-frame's. -/
theorem framePorts_eq (v : Bool) (f : CanOpenFrame) :
    framePorts v f = ((identifierPorts v f.raw).putFunction
      (f.functionCode.map fun fc => (fcRaw f.raw.identifier, fc)) f.nodeId).putSub f.subFrame := rfl

/-- The ports when a payload decoder has answered: its sub-frame over those driven before, or its error alone (R46). -/
def OutPorts.putSubResult (valid : Bool) (o : OutPorts) : Except DecodeError SubFrame → OutPorts
  | .ok sub => o.putSub sub
  | .error e => OutPorts.ofError valid e

/-- The ports of a standard frame: what its role's payload decoder answers, over the identifier and function-code ports. -/
theorem portsOf_decodeRaw_standard (v : Bool) (b : Build) {raw : RawFrame} (h : isExtended raw.identifier = false) :
    portsOf v (decodeRaw b raw) =
      OutPorts.putSubResult v
        ((identifierPorts v raw).putFunction
          (some (fcRaw raw.identifier, resolve b.fcMap (fcRaw raw.identifier))) (some (canopenNodeId raw.identifier)))
        (subFrameOf b (resolve b.fcMap (fcRaw raw.identifier)) raw.payload) := by
  rw [decodeRaw_standard h]
  cases subFrameOf b (resolve b.fcMap (fcRaw raw.identifier)) raw.payload <;> rfl

/-- The ports of an extended frame (R202). -/
theorem portsOf_decodeRaw_extended (v : Bool) (b : Build) {raw : RawFrame} (h : isExtended raw.identifier = true) :
    portsOf v (decodeRaw b raw) = ((identifierPorts v raw).putFunction none none).putSub (.unknown raw.payload) := by
  rw [decodeRaw_extended h, portsOf, framePorts_eq, Option.map_none]

namespace Machine

/-- A single row runs as `exec` says. -/
theorem run_singleton {i : Instr} {s t : State} (h : exec i s = .next t) : run [i] s = .next t := by
  rw [run_cons h, run]

/-! ### The rows of the identifier -/

/-- What the class row of an identifier drives (R121, R122, R202). -/
def driveIdentifier (id : Ident) (s : State) : State :=
  if isExtended id then driveNoFunction (driveClass true (addr29 id) s) else driveClass false (addr29 id) s

/-- What the flag rows of an identifier drive: each flag that is set (R123, R124). -/
def driveFlags (id : Ident) (s : State) : State :=
  { s with out := { s.out with
      fRtr := s.out.fRtr || isRemoteRequest id
      fErr := s.out.fErr || isErrorFrame id } }

/-- The class row of an identifier field (R91 steps 3 and 4). -/
theorem run_class {idBytes : List Byte} (hlen : idBytes.length = 4) (s : State) :
    run (rowOf .id32Class idBytes) s = .next (driveIdentifier (leAssemble 32 idBytes) s) := by
  rw [rowOf_of_decode (by rw [decode, word32Of_of_length hlen])]
  apply run_singleton
  unfold decodeClass driveIdentifier
  split <;> rfl

/-- The flag rows of an identifier field: one for each flag that is set (R204). -/
theorem run_flags {idBytes : List Byte} (hlen : idBytes.length = 4) (s : State) :
    run (rowOf .id32Rtr idBytes ++ rowOf .id32Err idBytes) s = .next (driveFlags (leAssemble 32 idBytes) s) := by
  cases hr : isRemoteRequest (leAssemble 32 idBytes) <;> cases he : isErrorFrame (leAssemble 32 idBytes) <;>
    simp [rowOf, decode, word32Of_of_length hlen, hr, he, run, exec, execIsRemoteRequest, execIsErrorFrame, driveFlags]

/-- The identifier rows of a standard frame drive its identifier ports. -/
theorem driveFlags_driveIdentifier_standard {raw : RawFrame} (h : isExtended raw.identifier = false) (s : State) :
    driveFlags raw.identifier (driveIdentifier raw.identifier (driveRaw raw s)) =
      { s with out := identifierPorts s.inp.inValid raw } := by
  obtain ⟨hext, herr, hstd⟩ := addr29_fields raw.identifier
  simp [driveFlags, driveIdentifier, driveClass, driveRaw, identifierPorts, h, isStandard, nodeAddress, hext, herr, hstd,
    OutPorts.ofRaw, OutPorts.zero]

/-- The identifier rows of an extended frame drive all its ports (R202). -/
theorem driveFlags_driveIdentifier_extended {raw : RawFrame} (h : isExtended raw.identifier = true) (b : Build)
    (s : State) :
    driveFlags raw.identifier (driveIdentifier raw.identifier (driveRaw raw s)) =
      { s with out := portsOf s.inp.inValid (decodeRaw b raw) } := by
  obtain ⟨hext, herr, hstd⟩ := addr29_fields raw.identifier
  rw [portsOf_decodeRaw_extended _ _ h]
  simp [driveFlags, driveIdentifier, driveClass, driveNoFunction, driveRaw, identifierPorts, h, isStandard, nodeAddress,
    hext, herr, hstd, OutPorts.ofRaw, OutPorts.zero, OutPorts.putSub, OutPorts.putFunction, OutPorts.clearSub,
    SubFrame.kind]

/-! ### The function-code row -/

/-- A function-code row drives the role its raw value has in the table (R141, R142). -/
theorem exec_fcRows : ∀ e ∈ fcRows, ∀ node s, exec (e.2 node) s = .next (driveRole e.1 node s) := by
  simp only [fcRows, List.forall_mem_cons, List.not_mem_nil, false_imp_iff, implies_true, and_true]
  and_intros <;> exact fun _ _ => rfl

/-- Every raw function code has its row (R91 step 4). -/
theorem fcRows_total : ∀ raw, (tableFind fcRows raw).isSome = true := by decide

/-- The function-code row of a standard identifier field. -/
theorem run_function {idBytes : List Byte} (hlen : idBytes.length = 4) (hstd : isStandard (leAssemble 32 idBytes) = true)
    (s : State) : run (rowOf .id32Std idBytes) s =
      .next (driveRole (fcRaw (leAssemble 32 idBytes)) (canopenNodeId (leAssemble 32 idBytes)) s) := by
  obtain ⟨row, hrow⟩ := Option.isSome_iff_exists.1 (fcRows_total (fcRaw (leAssemble 32 idBytes)))
  rw [rowOf_of_decode (i := row (canopenNodeId (leAssemble 32 idBytes)))
    (by simp [decode, word32Of_of_length hlen, hstd, hrow, rowOr])]
  exact run_singleton (exec_fcRows _ (tableFind_mem hrow) _ _)

/-! ### The payload rows -/

/-- The row of an NMT command byte drives what NMT_DECODE answers (R161). -/
theorem exec_decodeNmt (p : Payload) (s : State) : exec (decodeNmt p.p0 p.p1) s =
    .next { s with out := s.out.putSubResult s.inp.inValid (nmtDecode p) } := by
  cases hc : tableFind nmtTable p.p0 with
  | some command =>
    have hmem := tableFind_mem hc
    simp only [nmtTable, List.mem_cons, Prod.mk.injEq, List.not_mem_nil, or_false] at hmem
    rw [nmtDecode, hc]
    rcases hmem with ⟨h0, rfl⟩ | ⟨h0, rfl⟩ | ⟨h0, rfl⟩ | ⟨h0, rfl⟩ | ⟨h0, rfl⟩ <;> rw [h0] <;> rfl
  | none =>
    have hrow : tableFind nmtRows p.p0 = none := by
      rw [tableFind_eq_none] at hc ⊢
      simpa [nmtTable, nmtRows] using hc
    rw [nmtDecode, hc, decodeNmt, hrow]
    rfl

/-- What a command specifier does in a direction: the fields of its tag, or the error of an illegal one (R171, R172). -/
def driveSdoCommand (dir : Direction) (cs : Byte) (o : SdoOperands) (s : State) : State :=
  match sdoTagOf dir cs with
  | some tag => driveSdo dir cs tag o s
  | none => raise (.unknownSdoCommand cs) s

/-- The rows of the SDO commands of a direction. -/
def sdoRowsOf : Direction → List (Byte × (SdoOperands → Instr))
  | .rx => sdoRxRows
  | .tx => sdoTxRows

/-- Every command specifier has its row in each direction (R96, R171). -/
theorem sdoRowsOf_total (dir : Direction) : ∀ b0, (tableFind (sdoRowsOf dir) (sdoCs b0)).isSome = true := by
  cases dir <;> decide

/-- A row of a direction does what its command specifier does there. -/
theorem exec_sdoRowsOf (dir : Direction) :
    ∀ e ∈ sdoRowsOf dir, ∀ o s, exec (e.2 o) s = .next (driveSdoCommand dir e.1 o s) := by
  cases dir <;>
    simp only [sdoRowsOf, sdoRxRows, sdoTxRows, List.forall_mem_cons, List.not_mem_nil, false_imp_iff, implies_true,
      and_true] <;>
    and_intros <;> exact fun _ _ => rfl

/-- The SDO fields of a row are those of SDO_DECODE: byte 0 is its command specifier over its low bits (R183). -/
theorem sdoDecode_eq_sdoFieldsOf {b : Build} {dir : Direction} {p : Payload} {tag : SdoTag}
    (h : sdoTagOf dir (sdoCs p.p0) = some tag) :
    sdoDecode b dir p = .ok (sdoFieldsOf b (sdoCs p.p0) tag (SdoOperands.ofPayload p)) := by
  simp only [sdoDecode, h, sdoFieldsOf, SdoOperands.ofPayload, sdoCs_or_own_low]
  rfl

/-- A command row with the operands of a payload drives what SDO_DECODE answers for it (R183). -/
theorem driveSdoCommand_ofPayload (dir : Direction) (p : Payload) (s : State) :
    driveSdoCommand dir (sdoCs p.p0) (SdoOperands.ofPayload p) s =
      { s with out := s.out.putSubResult s.inp.inValid ((sdoDecode s.build dir p).map (sdoSub dir)) } := by
  cases htag : sdoTagOf dir (sdoCs p.p0) with
  | some tag =>
    rw [sdoDecode_eq_sdoFieldsOf htag, driveSdoCommand, htag]
    rfl
  | none =>
    simp only [driveSdoCommand, sdoDecode, htag]
    rfl

/-- A row of the abort table looks its code up (R181). -/
theorem exec_abortRows : ∀ e ∈ abortRows, ∀ s, exec e.2 s = .next (driveAbort e.1 s) := by
  simp only [abortRows, abortRowsA, abortRowsB, abortRowsC, List.cons_append, List.nil_append, List.forall_mem_cons,
    List.not_mem_nil, false_imp_iff, implies_true, and_true]
  and_intros <;> exact fun _ => rfl

/-- An abort row changes nothing when the ports already show the lookup of its code. -/
theorem run_abort_of_shown {code : List Byte} (hlen : code.length = 4) {s : State}
    (hshown : driveAbort (leAssemble 32 code) s = s) : run (rowOf .abort32 code) s = .next s := by
  cases hrow : tableFind abortRows (leAssemble 32 code) with
  | none => rw [rowOf_of_reject (by rw [decode, word32Of_of_length hlen, hrow, rowOr]), run]
  | some i =>
    rw [rowOf_of_decode (by rw [decode, word32Of_of_length hlen, hrow, rowOr]),
      run_singleton (exec_abortRows _ (tableFind_mem hrow) s), hshown]

/-- The command row of an abort transfer has looked the code up already (R180, R183). -/
theorem driveAbort_driveSdo (dir : Direction) (cs : Byte) (o : SdoOperands) (s : State) :
    driveAbort (leAssemble 32 [o.d0, o.d1, o.d2, o.d3]) (driveSdo dir cs .abortTransfer o s) =
      driveSdo dir cs .abortTransfer o s := by
  cases dir <;> rfl

/-- The SDO formats are read by one rule, each with the rows of its direction. -/
theorem decode_sdo (dir : Direction) (p : Payload) : decode dir.format p.bytes =
    rowOr dir.format ((tableFind (sdoRowsOf dir) (sdoCs p.p0)).map fun row => row (SdoOperands.ofPayload p)) := by
  cases dir <;> rfl

/-- The SDO rows of a payload drive what SDO_DECODE answers in their direction (R183). -/
theorem run_sdoRows (dir : Direction) (p : Payload) (s : State) : run (sdoRows dir p.bytes) s =
    .next { s with out := s.out.putSubResult s.inp.inValid ((sdoDecode s.build dir p).map (sdoSub dir)) } := by
  obtain ⟨row, hrow⟩ := Option.isSome_iff_exists.1 (sdoRowsOf_total dir p.p0)
  have hcommand : run (rowOf dir.format p.bytes) s =
      .next (driveSdoCommand dir (sdoCs p.p0) (SdoOperands.ofPayload p) s) := by
    rw [rowOf_of_decode (by rw [decode_sdo, hrow, Option.map_some, rowOr])]
    exact run_singleton (exec_sdoRowsOf dir _ (tableFind_mem hrow) _ _)
  rw [← driveSdoCommand_ofPayload, sdoRows, run_append hcommand]
  split
  next habort =>
    have htag : sdoTagOf dir (sdoCs p.p0) = some .abortTransfer := habort
    apply run_abort_of_shown rfl
    rw [driveSdoCommand, htag]
    exact driveAbort_driveSdo dir _ (SdoOperands.ofPayload p) s
  next => rfl

/-- The function-code row and the payload rows of a role drive the function code and what the role's payload decoder answers
(R91 steps 4 and 5, R203). -/
theorem run_payloadRows (raw : BitVec 4) (node : BitVec 7) (p : Payload) {s : State} (hp : s.out.payload = p.port) :
    run (payloadRows (resolve s.build.fcMap raw) p.bytes) (driveRole raw node s) =
      .next { s with
        out := (s.out.putFunction (some (raw, resolve s.build.fcMap raw)) (some node)).putSubResult s.inp.inValid
          (subFrameOf s.build (resolve s.build.fcMap raw) p) } := by
  unfold driveRole
  rw [hp, Payload.ofPort_port]
  dsimp only
  generalize resolve s.build.fcMap raw = role
  cases role with
  | nmtMc => exact run_singleton (exec_decodeNmt p _)
  | sdoRx => exact run_sdoRows .rx p _
  | sdoTx => exact run_sdoRows .tx p _
  | _ => rfl

/-! ### The rows of a buffer -/

/-- The rows of a 16-byte buffer drive every port to the projection of DECODE. -/
theorem run_decodeRows {buf : List Byte} (hlen : buf.length = 16) (s : State) : run (decodeRows s.build 16 buf) s =
    .next { s with out := portsOf s.inp.inValid (decodeBuffer s.build buf) } := by
  obtain ⟨raw, hparse, hrow, hid4, hid, hpayload⟩ := parse_of_length_sixteen hlen
  have hhead : run (rowOf .frameLen buf ++ rowOf .id32Class (buf.take 4) ++ rowOf .id32Rtr (buf.take 4) ++
      rowOf .id32Err (buf.take 4)) s =
      .next (driveFlags raw.identifier (driveIdentifier raw.identifier (driveRaw raw s))) := by
    rw [List.append_assoc, List.append_assoc, rowOf_of_decode hrow, run_append (run_singleton rfl),
      run_append (run_class hid4 _), run_flags hid4, hid]
  rw [decodeBuffer_of_parse hparse, decodeRows, if_neg (not_not_intro rfl)]
  dsimp only
  rw [run_append hhead, hid, hpayload]
  cases hext : isExtended raw.identifier with
  | true =>
    rw [if_neg (by simp [isStandard, hext]), driveFlags_driveIdentifier_extended hext s.build]
    rfl
  | false =>
    have hstd : isStandard (leAssemble 32 (buf.take 4)) = true := by simp [hid, isStandard, hext]
    rw [if_pos (hid ▸ hstd), driveFlags_driveIdentifier_standard hext, run_append (run_function hid4 hstd _), hid,
      portsOf_decodeRaw_standard _ _ hext]
    exact run_payloadRows _ _ raw.payload (s := { s with out := identifierPorts s.inp.inValid raw }) rfl

/-- The rows of the inputs drive every port to the projection of their decode, whatever their length. -/
theorem run_fetchRows (s : State) :
    run (fetchRows s) s = .next { s with out := portsOf s.inp.inValid (s.inp.decoded s.build) } := by
  unfold fetchRows InPorts.decoded
  by_cases hlen : s.inp.inLen = 16
  · rw [if_pos hlen, hlen]
    exact run_decodeRows rfl s
  · rw [if_neg hlen, decodeRows, if_pos hlen]
    exact run_singleton rfl

/-- A step whose inputs are held shows the projection of their decode (R43, R45, R46). -/
theorem step_of_ready_dataHeld {s : State} (h : (ready s).dataHeld = true) :
    step s = .next { ready s with out := portsOf (ready s).inp.inValid ((ready s).inp.decoded (ready s).build) } := by
  rw [step, sampleStep, if_pos h]
  exact run_fetchRows (ready s)

end Machine
end Sys2Proof
end

section
/-! The ports of a decoded frame as lanes of `in_data` (R44, R65), and the statement about them. -/

namespace Sys2Proof

open Sys2Proof.Claims Sys2Proof.Machine

/-- R65: bytes read from the lanes are the bits of `in_data` at their offset. -/
theorem memRead_lanes (d : BitVec 128) {a n : Nat} (h : a + n ≤ 16) :
    memRead (lanes d) a n = d.extractLsb' (8 * a) (8 * n) := by
  apply BitVec.eq_of_getLsbD_eq
  intro i hi
  have hlane : (((lanes d).drop a).take n)[i / 8]? = some (laneOf d (a + i / 8)) := by
    simp [lanes, show i / 8 < n by omega, show a + i / 8 < 16 by omega]
  rw [memRead, leAssemble_getLsbD _ _ _ hi, hlane, Option.getD_some, laneOf, BitVec.getLsbD_extractLsb',
    BitVec.getLsbD_extractLsb']
  simp [hi, Nat.mod_lt, show 8 * (a + i / 8) + i % 8 = 8 * a + i by omega]

/-- A frame of an SDO kind carries SDO fields, and its abort-code port is theirs (R40, R45). -/
theorem framePorts_sdoAbortCode {v : Bool} {f : CanOpenFrame}
    (h : (framePorts v f).subKind = 2 ∨ (framePorts v f).subKind = 3) :
    ∃ x, sdoFieldsIn f = some x ∧ (framePorts v f).sdoAbortCode = x.abortCode := by
  rw [framePorts_subKind] at h
  cases hsub : f.subFrame with
  | sdoRx x | sdoTx x =>
    exact ⟨x, by simp [sdoFieldsIn, hsub], by simp [framePorts, hsub, OutPorts.putSub, OutPorts.putSdo]⟩
  | unknown | nmtMasterControl | pdoOpaque => simp [hsub, SubFrame.kind] at h

/-- The abort-code port of a decoded SDO frame is read from payload bytes 4 to 7 (R179). -/
theorem sdoAbortCode_of_decodedTo {v : Bool} {b : Build} {buf : List Byte} {f : CanOpenFrame} (hf : decodedTo b buf f)
    (h : (framePorts v f).subKind = 2 ∨ (framePorts v f).subKind = 3) :
    (framePorts v f).sdoAbortCode = sdoAbortCode f.raw.payload := by
  obtain ⟨x, hx, hport⟩ := framePorts_sdoAbortCode h
  obtain ⟨dir, hdec⟩ := sdoDecode_of_decodedTo hf hx
  obtain ⟨tag, -, rfl⟩ := sdoDecode_ok hdec
  exact hport

/-- Inputs whose decode shows status 0 have the length of a frame, and their lanes decode to one (R110, R230). -/
theorem decodedTo_lanes_of_status {v : Bool} {b : Build} {p : InPorts} (h : (portsOf v (p.decoded b)).status = 0) :
    ∃ f, decodedTo b (lanes p.inData) f ∧ portsOf v (p.decoded b) = framePorts v f := by
  cases hd : p.decoded b with
  | error e =>
    rw [hd] at h
    exact absurd h e.code_ne_zero
  | ok f =>
    refine ⟨f, ?_, rfl⟩
    unfold InPorts.decoded at hd
    split at hd
    · exact hd
    · cases hd

/-- Settles O57: the ports are those of a frame, whose fields are reads of the lanes at fixed offsets. -/
theorem portsCarryTheInputLanes : Obligations.PortsCarryTheInputLanes := by
  intro s t p rest hp hheld hstep hstatus
  have hinp : (ready s).inp = p.ports := by simp [present_cons s hp]
  rw [step_of_ready_dataHeld (by simpa [present_cons s hp] using hheld), hinp] at hstep
  cases hstep
  obtain ⟨f, hf, hout⟩ := decodedTo_lanes_of_status hstatus
  obtain ⟨hparse, -⟩ := parse_of_decodedTo hf
  obtain ⟨hid, hdlc, hpayload, hcode⟩ := parseFrame_reads hparse
  obtain ⟨hidPort, hdlcPort, hpayloadPort⟩ := framePorts_raw p.ports.inValid f
  dsimp only
  rw [hout, hidPort, hdlcPort, hpayloadPort, hid, hdlc, hpayload]
  refine ⟨memRead_lanes _ (by decide), memRead_lanes _ (by decide), memRead_lanes _ (by decide), fun hkind => ?_⟩
  rw [sdoAbortCode_of_decodedTo hf hkind, hcode]
  exact memRead_lanes _ (by decide)

end Sys2Proof
end

section
/-! DECODE as the decode map writes it (R91): the identifier fields as bits of the identifier, what each payload decoder answers
for each command byte, and the statement about them. -/

namespace Sys2Proof

open Sys2Proof.Claims

/-! ### The identifier fields as bits -/

/-- The test of a flag that is one bit is that bit of the identifier (R120). -/
theorem flagSet_twoPow (id : Ident) {i : Nat} (hi : i < 32) : flagSet id (BitVec.twoPow 32 i) = id.getLsbD i := by
  rw [flagSet, BitVec.and_twoPow]
  cases id.getLsbD i with
  | true => simp
  | false =>
    have hne : (0 : Ident) ≠ BitVec.twoPow 32 i := fun h => by
      simpa [BitVec.getLsbD_twoPow, hi] using congrArg (BitVec.getLsbD · i) h
    simpa using hne

/-- An identifier is extended when its bit 31 is set (R121). -/
theorem isExtended_eq_getLsbD (id : Ident) : isExtended id = id.getLsbD 31 := by
  rw [isExtended, show effFlag = BitVec.twoPow 32 31 by decide, flagSet_twoPow id (by decide)]

/-- The raw function code is bits 10:7 (R140). -/
theorem fcRaw_eq_extractLsb' (id : Ident) : fcRaw id = id.extractLsb' 7 4 := by
  apply BitVec.eq_of_getLsbD_eq
  intro i hi
  simp only [fcRaw, fcMask, fcShift, BitVec.getLsbD_setWidth, BitVec.getLsbD_ushiftRight, BitVec.getLsbD_and,
    BitVec.getLsbD_extractLsb']
  interval_cases i <;> simp

/-- The node id is bits 6:0 (R144). -/
theorem canopenNodeId_eq_extractLsb' (id : Ident) : canopenNodeId id = id.extractLsb' 0 7 := by
  rw [canopenNodeId, nodeMask, BitVec.setWidth_and, show (0x7F : Ident).setWidth 7 = BitVec.allOnes 7 by decide,
    BitVec.and_allOnes, BitVec.setWidth_eq_extractLsb' (by decide)]

/-! ### The payload decoders by their command byte -/

/-- NMT_DECODE of a command byte the table lists (R160, R161). -/
theorem nmtDecode_of_mem {p : Payload} {c : NmtCommand} (h : (p.p0, c) ∈ nmtTable) :
    nmtDecode p = .ok (.nmtMasterControl c p.p1) := by
  rw [nmtDecode, tableFind_of_mem (by decide) h]

/-- NMT_DECODE of a command byte the table lacks (R160, R162). -/
theorem nmtDecode_of_not_mem {p : Payload} (h : p.p0 ∉ nmtTable.map Prod.fst) :
    nmtDecode p = .error (.unknownNmtCommand p.p0) := by
  rw [nmtDecode, tableFind_eq_none.2 fun e he h0 => h (List.mem_map.2 ⟨e, he, h0⟩)]

/-- SDO_DECODE of a command specifier the table of its direction lacks (R172). -/
theorem sdoDecode_of_sdoTagOf_none {b : Build} {dir : Direction} {p : Payload} (h : sdoTagOf dir (sdoCs p.p0) = none) :
    sdoDecode b dir p = .error (.unknownSdoCommand (sdoCs p.p0)) := by
  simp only [sdoDecode, h]

/-- The command specifiers the receive table lacks (R96, R171). -/
theorem sdoTagOf_rx_illegal : ∀ cs ∈ [0xA0#8, 0xE0], sdoTagOf .rx cs = none := by decide

/-- The command specifiers the transmit table lacks (R96, R171). -/
theorem sdoTagOf_tx_illegal : ∀ cs ∈ [0xC0#8, 0xE0], sdoTagOf .tx cs = none := by decide

/-- The PDO roles keep the payload opaque (R203, R206). -/
theorem subFrameOf_pdo (b : Build) (p : Payload) :
    ∀ role ∈ [FunctionCode.pdo1Tx, .pdo1Rx, .pdo2Tx, .pdo2Rx, .pdo3Tx, .pdo3Rx, .pdo4Tx, .pdo4Rx],
      subFrameOf b role p = .ok (.pdoOpaque p) := by
  simp [subFrameOf]

/-- The roles without a structured payload (R203). -/
theorem subFrameOf_unstructured (b : Build) (p : Payload) :
    ∀ role ∈ [FunctionCode.syncEmcy, .timestamp, .nmtNodeGuard, .unknown], subFrameOf b role p = .ok (.unknown p) := by
  simp [subFrameOf]

/-! ### A standard frame, by the bits of its identifier -/

section
variable {b : Build} {buf : List Byte} {raw : RawFrame} (hparse : parseFrame buf = .ok raw)
  (hstd : raw.identifier.getLsbD 31 = false)
include hparse hstd

/-- DECODE of a standard frame whose role takes its payload: the sub-frame under the role and the node id (R200, R203). -/
theorem decodeBuffer_of_subFrameOf_ok {sub : SubFrame}
    (h : subFrameOf b (resolve b.fcMap (raw.identifier.extractLsb' 7 4)) raw.payload = .ok sub) :
    decodeBuffer b buf = .ok
      { raw := raw, functionCode := some (resolve b.fcMap (raw.identifier.extractLsb' 7 4)),
        nodeId := some (raw.identifier.extractLsb' 0 7), subFrame := sub } := by
  rw [← isExtended_eq_getLsbD] at hstd
  rw [decodeBuffer_of_parse hparse, decodeRaw_standard hstd, fcRaw_eq_extractLsb', h, canopenNodeId_eq_extractLsb']
  rfl

/-- DECODE of a standard frame whose role refuses its payload ends with that error (R91, R200). -/
theorem decodeBuffer_of_subFrameOf_error {e : DecodeError}
    (h : subFrameOf b (resolve b.fcMap (raw.identifier.extractLsb' 7 4)) raw.payload = .error e) :
    decodeBuffer b buf = .error e := by
  rw [← isExtended_eq_getLsbD] at hstd
  rw [decodeBuffer_of_parse hparse, decodeRaw_standard hstd, fcRaw_eq_extractLsb', h]
  rfl

end

/-- Settles O44: the length and the class are decided by PARSE and bit 31; a standard frame decodes as its role's payload decoder
answers, one lemma for each answer. -/
theorem decodeFollowsTheMap : Obligations.DecodeFollowsTheMap := by
  intro b buf
  refine ⟨decodeBuffer_of_length, fun raw hparse => ⟨fun hext => ?_, fun hstd => ?_⟩⟩
  · rw [decodeBuffer_of_parse hparse]
    exact decodeRaw_extended ((isExtended_eq_getLsbD _).trans hext)
  · intro role frame p
    have hok {sub : SubFrame} (h : subFrameOf b role p = .ok sub) : decodeBuffer b buf = frame sub :=
      decodeBuffer_of_subFrameOf_ok hparse hstd h
    have herr {e : DecodeError} (h : subFrameOf b role p = .error e) : decodeBuffer b buf = .error e :=
      decodeBuffer_of_subFrameOf_error hparse hstd h
    refine ⟨fun hrole hp0 => herr ?nmtIllegal, fun hrole c hc => hok ?nmt, fun hrole hcs => herr ?rxIllegal,
      fun hrole x hx => hok ?rx, fun hrole hcs => herr ?txIllegal, fun hrole x hx => hok ?tx,
      fun hrole => hok (subFrameOf_pdo b p role hrole), fun hrole => hok (subFrameOf_unstructured b p role hrole)⟩ <;>
      rw [hrole, subFrameOf]
    case nmtIllegal => exact nmtDecode_of_not_mem hp0
    case nmt => exact nmtDecode_of_mem hc
    case rxIllegal => rw [sdoDecode_of_sdoTagOf_none (sdoTagOf_rx_illegal _ hcs)]; rfl
    case rx => rw [hx]; rfl
    case txIllegal => rw [sdoDecode_of_sdoTagOf_none (sdoTagOf_tx_illegal _ hcs)]; rfl
    case tx => rw [hx]; rfl

end Sys2Proof
end

section
/-! The codes the ports can show (R36 to R38, R40, R97, R230), and the statement about the codes that are reserved. -/

namespace Sys2Proof

open Sys2Proof.Claims

/-! ### The codes of each enumeration -/

theorem FunctionCode.tag_toNat_le (r : FunctionCode) : r.tag.toNat ≤ 14 := by
  cases r <;> decide

theorem NmtCommand.code_toNat_le (c : NmtCommand) : c.code.toNat ≤ 4 := by
  cases c <;> decide

theorem SdoTag.code_toNat_le (t : SdoTag) : t.code.toNat ≤ 5 := by
  cases t <;> decide

theorem SubFrame.kind_toNat_le (s : SubFrame) : s.kind.toNat ≤ 4 := by
  cases s <;> simp [SubFrame.kind]

theorem DecodeError.code_toNat_le (e : DecodeError) : e.code.toNat ≤ 4 := by
  cases e <;> simp [DecodeError.code]

/-! ### The ports that show them -/

/-- `fc_tag` shows the tag of a role, or 0 (R36, R46). -/
theorem framePorts_fcTag_toNat_le (v : Bool) (f : CanOpenFrame) : (framePorts v f).fcTag.toNat ≤ 14 := by
  cases hfc : f.functionCode with
  | none =>
    obtain ⟨-, -, htag, -⟩ := framePorts_of_functionCode_none v hfc
    simp [htag]
  | some r => simpa [framePorts, hfc, OutPorts.putFunction] using r.tag_toNat_le

/-- `nmt_cmd` and `sdo_tag` show the code of the sub-frame's command or tag, or 0 (R37, R38, R46). -/
theorem OutPorts.putSub_command_codes_le (o : OutPorts) (s : SubFrame) :
    (o.putSub s).nmtCmd.toNat ≤ 4 ∧ (o.putSub s).sdoTag.toNat ≤ 5 := by
  cases s with
  | nmtMasterControl c _ => exact ⟨c.code_toNat_le, Nat.zero_le 5⟩
  | sdoRx x | sdoTx x => exact ⟨Nat.zero_le 4, x.tag.code_toNat_le⟩
  | unknown | pdoOpaque => exact ⟨Nat.zero_le 4, Nat.zero_le 5⟩

/-! ### The query tags without a value -/

/-- A tag that no listed role has gives no value (R145). -/
theorem queryPorts_of_no_role {m : List (BitVec 4 × FunctionCode)} {tag : BitVec 4}
    (h : ∀ r ∈ m.map Prod.snd, r.tag ≠ tag) : queryPorts m tag = ⟨false, 0⟩ := by
  have hnone : codeValue m tag = none := by
    rw [Option.eq_none_iff_forall_ne_some]
    intro v hv
    obtain ⟨r, hmem, htag⟩ := codeValue_mem hv
    exact h r (List.mem_map_of_mem hmem) htag
  simp [queryPorts, hnone]

/-- Settles O49: a frame's ports show codes of the enumerations, an error's only its status; a legal table lists no role of tag 14,
and there is no role of tag 15. -/
theorem reservedCodesAreNeverProduced : Obligations.ReservedCodesAreNeverProduced := by
  intro b v buf o
  have hquery : FcMapOk b.fcMap → queryPorts b.fcMap 14 = ⟨false, 0⟩ ∧ queryPorts b.fcMap 15 = ⟨false, 0⟩ := by
    rintro ⟨-, -, hunknown, -⟩
    refine ⟨queryPorts_of_no_role fun r hr htag => ?_, queryPorts_of_no_role fun r _ htag => ?_⟩
    · exact hunknown (FunctionCode.tag_injective r .unknown htag ▸ hr)
    · exact absurd r.tag_toNat_le (by simp [htag])
  cases hdec : decodeBuffer b buf with
  | error e =>
    have ho : o = errorOut v e.code e.value := by simp only [o, hdec, portsOf_error]
    rw [ho]
    exact ⟨Nat.zero_le 14, Nat.zero_le 4, Nat.zero_le 5, Nat.zero_le 4, e.code_toNat_le, hquery⟩
  | ok f =>
    have ho : o = framePorts v f := portsOf_of_decodedTo v hdec
    obtain ⟨hnmt, hsdo⟩ := OutPorts.putSub_command_codes_le _ f.subFrame
    obtain ⟨hstatus, -⟩ := framePorts_status v f
    rw [ho, framePorts_subKind, hstatus]
    exact ⟨framePorts_fcTag_toNat_le v f, hnmt, hsdo, f.subFrame.kind_toNat_le, Nat.zero_le 4, hquery⟩

end Sys2Proof
end

section
/-! The slicer: what PARSE and the decode map read of a buffer, window by window (R61, R110 to R114), and the statements that
every field is cut from its own bytes and that the padding is read by neither. -/

namespace Sys2Proof

open Sys2Proof.Claims

/-- PARSE fails on the length and on nothing else (R110). -/
theorem parseFrame_eq_invalidFrameLength_iff (buf : List Byte) :
    parseFrame buf = .error .invalidFrameLength ↔ buf.length ≠ 16 := by
  by_cases h : buf.length = 16
  · obtain ⟨raw, hparse, -⟩ := parse_of_length_sixteen h
    simp [hparse, h]
  · simp [parseFrame, h]

/-- Settles O6: a 16-byte buffer has its identifier field, byte 4 and payload window as the parsed fields; each is read byte by byte. -/
theorem parseCutsEveryField : Obligations.ParseCutsEveryField := by
  intro buf
  refine ⟨parseFrame_eq_invalidFrameLength_iff buf, fun hlen => ?_⟩
  obtain ⟨raw, hparse, -, -, hid, hpayload⟩ := parse_of_length_sixteen hlen
  obtain ⟨-, hdlc, -⟩ := parseFrame_reads hparse
  have hbyte {k : Nat} (hk : k < 16) : ∃ v, buf[k]? = some v := ⟨_, List.getElem?_eq_getElem (hlen ▸ hk)⟩
  refine ⟨raw, hparse, fun k hk => ?_, ?_, fun k hk => ?_⟩
  · obtain ⟨v, hv⟩ := hbyte (k := k) (by omega)
    have hfield : (buf.take 4)[k]? = some v := by rw [List.getElem?_take_of_lt hk, hv]
    rw [hv, ← hid, leAssemble_extractLsb'_byte hfield (by omega)]
  · obtain ⟨v, hv⟩ := hbyte (k := 4) (by decide)
    rw [hv, hdlc, memRead_one hv]
  · rw [← hpayload, List.getElem?_take_of_lt hk, List.getElem?_drop]

/-! ### The padding bytes -/

/-- Buffers that agree off some offsets have the same bytes in a window that holds none of these. -/
theorem window_eq_of_agreeOff {ks : List Nat} {x y : List Byte} (h : AgreeOff ks x y) {a n : Nat}
    (hoff : ∀ i < n, a + i ∉ ks) : (x.drop a).take n = (y.drop a).take n := by
  obtain ⟨-, hbytes⟩ := h
  apply List.ext_getElem?
  intro i
  by_cases hi : i < n
  · simp [hi, hbytes _ (hoff i hi)]
  · simp [hi]

/-- PARSE reads no padding byte (R113). -/
theorem parseFrame_of_agreeOff_padding {x y : List Byte} (h : AgreeOff [5, 6, 7] x y) : parseFrame x = parseFrame y := by
  have hread (a n : Nat) (ha : a + n ≤ 5 ∨ 8 ≤ a) : memRead x a n = memRead y a n :=
    congrArg (leAssemble (8 * n)) (window_eq_of_agreeOff h fun i hi => by simp; omega)
  obtain ⟨hlen, -⟩ := h
  simp [parseFrame, hlen, hread]

/-- The rows of a buffer are chosen by its FRAME_LEN row, its identifier field and its payload window alone (R91). -/
theorem decodeRows_congr (b : Build) (len : Nat) {x y : List Byte} (hrow : decode .frameLen x = decode .frameLen y)
    (hid : x.take 4 = y.take 4) (hpayload : (x.drop 8).take 8 = (y.drop 8).take 8) :
    decodeRows b len x = decodeRows b len y := by
  simp only [decodeRows, rowOf, hrow, hid, hpayload]

/-- A 16-byte buffer has the PARSE row of its parsed fields, so FRAME_LEN reads no padding byte either (R92, R113). -/
theorem decode_frameLen_of_agreeOff_padding {x y : List Byte} (h : AgreeOff [5, 6, 7] x y) (hx : x.length = 16)
    (hy : y.length = 16) : decode .frameLen x = decode .frameLen y := by
  obtain ⟨raw, hparsex, hrowx, -⟩ := parse_of_length_sixteen hx
  obtain ⟨raw', hparsey, hrowy, -⟩ := parse_of_length_sixteen hy
  rw [parseFrame_of_agreeOff_padding h, hparsey] at hparsex
  rw [hrowx, hrowy, Except.ok.inj hparsex]

/-- The rows of a 16-byte buffer come from windows without padding, those of any other buffer from its length (R91, R113). -/
theorem decodeRows_of_agreeOff_padding (b : Build) (len : Nat) {x y : List Byte} (h : AgreeOff [5, 6, 7] x y)
    (hx : x.length = len) (hy : y.length = len) : decodeRows b len x = decodeRows b len y := by
  by_cases hlen : len = 16
  · subst hlen
    exact decodeRows_congr b 16 (decode_frameLen_of_agreeOff_padding h hx hy)
      (window_eq_of_agreeOff h (a := 0) (by decide)) (window_eq_of_agreeOff h (by simp; omega))
  · rw [decodeRows, decodeRows, if_pos hlen, if_pos hlen]

/-- Settles O10: PARSE answers the same, so the rest of DECODE does; and the rows are chosen without the padding. -/
theorem paddingBytesReachNothing : Obligations.PaddingBytesReachNothing := by
  intro b x y h
  have ⟨hlen, _⟩ := h
  refine ⟨by rw [decodeBuffer, decodeBuffer, parseFrame_of_agreeOff_padding h], ?_⟩
  rw [hlen]
  exact decodeRows_of_agreeOff_padding b _ h hlen rfl

end Sys2Proof
end

section
/-! The identifier classifier (spec/41_identifier.md): its tests and addresses as bits of the identifier, what the ports of a
decoded frame show of them (R45), and the three statements about them. -/

namespace Sys2Proof

open Sys2Proof.Claims

/-! ### The tests and the addresses as bits -/

/-- An identifier is standard when its bit 31 is clear (R122). -/
theorem isStandard_eq_not_getLsbD (id : Ident) : isStandard id = !id.getLsbD 31 := by
  rw [isStandard, isExtended_eq_getLsbD]

/-- An identifier is a remote request when its bit 30 is set (R123). -/
theorem isRemoteRequest_eq_getLsbD (id : Ident) : isRemoteRequest id = id.getLsbD 30 := by
  rw [isRemoteRequest, show rtrFlag = BitVec.twoPow 32 30 by decide, flagSet_twoPow id (by decide)]

/-- An identifier is that of an error frame when its bit 29 is set (R124). -/
theorem isErrorFrame_eq_getLsbD (id : Ident) : isErrorFrame id = id.getLsbD 29 := by
  rw [isErrorFrame, show errFlag = BitVec.twoPow 32 29 by decide, flagSet_twoPow id (by decide)]

/-- The extended address is bits 28:0 (R127). -/
theorem extAddress_eq_extractLsb' (id : Ident) : extAddress id = id.extractLsb' 0 29 := by
  obtain ⟨hext, -⟩ := addr29_fields id
  rw [hext, addr29]

/-- The error bits are bits 28:0 (R128). -/
theorem errBits_eq_extractLsb' (id : Ident) : errBits id = id.extractLsb' 0 29 := by
  obtain ⟨-, herr, -⟩ := addr29_fields id
  rw [herr, addr29]

/-- The standard address is the identifier cut to 11 bits (R126). -/
theorem stdAddress_eq_setWidth (id : Ident) : stdAddress id = id.setWidth 11 := by
  obtain ⟨-, -, hstd⟩ := addr29_fields id
  rw [hstd, addr29_eq_setWidth, BitVec.setWidth_setWidth_of_le _ (by decide)]

/-- The standard address is bits 10:0 (R126). -/
theorem stdAddress_eq_extractLsb' (id : Ident) : stdAddress id = id.extractLsb' 0 11 := by
  rw [stdAddress_eq_setWidth, BitVec.setWidth_eq_extractLsb' (by decide)]

/-- The node address has the width of the identifier's class (R125). -/
theorem nodeAddress_eq_extractLsb' (id : Ident) :
    nodeAddress id = if id.getLsbD 31 then id.extractLsb' 0 29 else (id.extractLsb' 0 11).setWidth 29 := by
  rw [nodeAddress, isExtended_eq_getLsbD, extAddress_eq_extractLsb', stdAddress_eq_extractLsb']

/-- The node address of a standard identifier is its standard address (R125). -/
theorem nodeAddress_of_isStandard {id : Ident} (h : isStandard id = true) :
    nodeAddress id = (stdAddress id).setWidth 29 := by
  have hext : isExtended id = false := by simpa [isStandard] using h
  simp [nodeAddress, hext]

/-- The node id of a standard identifier is bits 6:0 of its node address (R131). -/
theorem canopenNodeId_eq_nodeAddress_low {id : Ident} (h : isStandard id = true) :
    canopenNodeId id = (nodeAddress id).extractLsb' 0 7 := by
  calc canopenNodeId id
      _ = id.setWidth 7 := by rw [canopenNodeId_eq_extractLsb', BitVec.setWidth_eq_extractLsb' (by decide)]
      _ = ((stdAddress id).setWidth 29).setWidth 7 := by
        rw [stdAddress_eq_setWidth, BitVec.setWidth_setWidth_of_le _ (by decide),
          BitVec.setWidth_setWidth_of_le _ (by decide)]
      _ = (nodeAddress id).extractLsb' 0 7 := by
        rw [nodeAddress_of_isStandard h, BitVec.setWidth_eq_extractLsb' (by decide)]

/-! ### The ports of a decoded frame -/

section
variable (v : Bool) {b : Build} {buf : List Byte} {f : CanOpenFrame} (h : decodedTo b buf f)
include h

/-- A decoded frame keeps the identifier of its buffer (R111, R200). -/
theorem identifier_of_decodedTo : f.raw.identifier = identOf buf := by
  obtain ⟨hparse, -⟩ := parse_of_decodedTo h
  obtain ⟨hid, -⟩ := parseFrame_reads hparse
  exact hid

/-- The flag ports of a decoded frame show the flag tests of its identifier. -/
theorem flagPorts_of_decodedTo :
    (portsOf v (decodeBuffer b buf)).fExt = isExtended (identOf buf) ∧
      (portsOf v (decodeBuffer b buf)).fStd = isStandard (identOf buf) ∧
      (portsOf v (decodeBuffer b buf)).fRtr = isRemoteRequest (identOf buf) ∧
      (portsOf v (decodeBuffer b buf)).fErr = isErrorFrame (identOf buf) := by
  rw [portsOf_of_decodedTo v h, ← identifier_of_decodedTo h]
  simp [framePorts]

/-- The address ports of a decoded frame show the masked addresses of its identifier. -/
theorem addressPorts_of_decodedTo :
    (portsOf v (decodeBuffer b buf)).stdAddr = stdAddress (identOf buf) ∧
      (portsOf v (decodeBuffer b buf)).extAddr = extAddress (identOf buf) ∧
      (portsOf v (decodeBuffer b buf)).errBits = errBits (identOf buf) ∧
      (portsOf v (decodeBuffer b buf)).nodeAddr = nodeAddress (identOf buf) := by
  rw [portsOf_of_decodedTo v h, ← identifier_of_decodedTo h]
  simp [framePorts]

/-- A decoded standard frame has the node id of its identifier (R200). -/
theorem nodeId_of_decodedTo_standard (hstd : isStandard (identOf buf) = true) :
    f.nodeId = some (canopenNodeId (identOf buf)) := by
  have hid := identifier_of_decodedTo h
  obtain ⟨-, hraw⟩ := parse_of_decodedTo h
  obtain ⟨hext, -⟩ | ⟨-, sub, -, hf⟩ := decodeRaw_ok hraw
  · simp [isStandard, ← hid, hext] at hstd
  · rw [hf, hid]

/-- The node-id port of a decoded standard frame shows the node id of its identifier. -/
theorem nodeIdPort_of_decodedTo_standard (hstd : isStandard (identOf buf) = true) :
    (portsOf v (decodeBuffer b buf)).nodeId = canopenNodeId (identOf buf) := by
  rw [portsOf_of_decodedTo v h]
  simp [framePorts, OutPorts.putFunction, nodeId_of_decodedTo_standard h hstd]

end

/-! ### The statements -/

/-- Settles O12: each test is of one bit, and the flag ports of a decoded frame are the tests of its identifier. -/
theorem flagTestsReadTheirOwnBit : Obligations.FlagTestsReadTheirOwnBit := by
  refine ⟨fun id => ⟨isExtended_eq_getLsbD id, isStandard_eq_not_getLsbD id, isRemoteRequest_eq_getLsbD id,
    isErrorFrame_eq_getLsbD id⟩, fun b v buf f h => ?_⟩
  obtain ⟨hext, hstd, hrtr, herr⟩ := flagPorts_of_decodedTo v h
  exact ⟨hext.trans (isExtended_eq_getLsbD _), hstd.trans (isStandard_eq_not_getLsbD _),
    hrtr.trans (isRemoteRequest_eq_getLsbD _), herr.trans (isErrorFrame_eq_getLsbD _)⟩

/-- Settles O13: each mask keeps the low bits, and the address ports of a decoded frame are the addresses of its identifier. -/
theorem addressesAreTheMaskedLowBits : Obligations.AddressesAreTheMaskedLowBits := by
  refine ⟨fun id => ⟨stdAddress_eq_extractLsb' id, extAddress_eq_extractLsb' id, errBits_eq_extractLsb' id,
    nodeAddress_eq_extractLsb' id⟩, fun b v buf f h => ?_⟩
  obtain ⟨hstd, hext, herr, hnode⟩ := addressPorts_of_decodedTo v h
  exact ⟨hstd.trans (stdAddress_eq_extractLsb' _), hext.trans (extAddress_eq_extractLsb' _),
    herr.trans (errBits_eq_extractLsb' _), hnode.trans (nodeAddress_eq_extractLsb' _)⟩

/-- Settles O14: the 7 low bits survive the cut to 11, and a decoded standard frame shows both values on its ports. -/
theorem nodeIdIsLowBitsOfNodeAddress : Obligations.NodeIdIsLowBitsOfNodeAddress := by
  refine ⟨fun id => canopenNodeId_eq_nodeAddress_low, fun b v buf f h hstd => ?_⟩
  obtain ⟨-, -, -, hnode⟩ := addressPorts_of_decodedTo v h
  rw [nodeIdPort_of_decodedTo_standard v h hstd, hnode, canopenNodeId_eq_nodeAddress_low hstd]

end Sys2Proof
end

section
/-! The function code (spec/42_function_code.md): RESOLVE and CODE_VALUE as the two readings of a legal table, what a decoded
standard frame and the query ports show of them (R45, R48), and the five statements about them. -/

namespace Sys2Proof

open Sys2Proof.Claims Sys2Proof.Machine

/-! ### The table and its two readings -/

section
variable {m : List (BitVec 4 × FunctionCode)} {raw : BitVec 4} {r : FunctionCode}

/-- A raw value listed once resolves to the role of its entry (R142). -/
theorem resolve_of_mem (hn : (m.map Prod.fst).Nodup) (h : (raw, r) ∈ m) : resolve m raw = r := by
  rw [resolve, tableFind_of_mem hn h, Option.getD_some]

/-- A raw value without entry resolves to UNKNOWN (R142). -/
theorem resolve_of_no_entry (h : ∀ e ∈ m, e.1 ≠ raw) : resolve m raw = .unknown := by
  rw [resolve, tableFind_eq_none.2 h, Option.getD_none]

/-- A raw value that resolves to a role other than UNKNOWN is listed with it (R142). -/
theorem mem_of_resolve_ne_unknown (h : resolve m raw ≠ .unknown) : (raw, resolve m raw) ∈ m := by
  cases hfind : tableFind m raw with
  | none => exact absurd (resolve_of_no_entry (tableFind_eq_none.1 hfind)) h
  | some r' =>
    rw [resolve, hfind, Option.getD_some]
    exact tableFind_mem hfind

/-- The code value of a role is listed with it (R145). -/
theorem mem_of_codeValue_tag (h : codeValue m r.tag = some raw) : (raw, r) ∈ m := by
  obtain ⟨r', hmem, htag⟩ := codeValue_mem h
  rwa [FunctionCode.tag_injective r' r htag] at hmem

/-- A role listed once has the raw value of its entry (R145): its tag too is listed once, as no two roles share a tag. -/
theorem codeValue_tag_of_mem (hn : (m.map Prod.snd).Nodup) (h : (raw, r) ∈ m) : codeValue m r.tag = some raw := by
  have hkeys : (m.map fun e => (e.2.tag, e.1)).map Prod.fst = (m.map Prod.snd).map FunctionCode.tag := by simp
  rw [codeValue]
  apply tableFind_of_mem
  · rw [hkeys]
    exact hn.map FunctionCode.tag_injective
  · exact List.mem_map.2 ⟨(raw, r), h, rfl⟩

end

/-! ### The function code of a decoded standard frame -/

/-- The role port of a function code has the bit of its tag and no other (R45). -/
theorem roleBits_some_getLsbD (r : FunctionCode) (k : Nat) : (roleBits (some r)).getLsbD k = decide (k = r.tag.toNat) := by
  have htag : r.tag.toNat < 15 := Nat.lt_succ_of_le r.tag_toNat_le
  calc (roleBits (some r)).getLsbD k
      _ = (BitVec.twoPow 15 r.tag.toNat).getLsbD k := rfl
      _ = decide (k = r.tag.toNat) := by simp [BitVec.getLsbD_twoPow, htag, eq_comm]

section
variable (v : Bool) {b : Build} {buf : List Byte} {f : CanOpenFrame} (h : decodedTo b buf f)
  (hstd : isStandard (identOf buf) = true)
include h hstd

/-- A decoded standard frame has the role its raw function code resolves to (R200). -/
theorem functionCode_of_decodedTo_standard : f.functionCode = some (roleOf b buf) := by
  have hid := identifier_of_decodedTo h
  obtain ⟨-, hraw⟩ := parse_of_decodedTo h
  obtain ⟨hext, -⟩ | ⟨-, sub, -, hf⟩ := decodeRaw_ok hraw
  · simp [isStandard, ← hid, hext] at hstd
  · rw [hf, hid, roleOf, fcRaw_eq_extractLsb']

/-- The function-code ports of a decoded standard frame show its raw function code and its role. -/
theorem functionPorts_of_decodedTo_standard :
    (portsOf v (decodeBuffer b buf)).fcValid = true ∧
      (portsOf v (decodeBuffer b buf)).fcRaw = fcRaw (identOf buf) ∧
      (portsOf v (decodeBuffer b buf)).fcTag = (roleOf b buf).tag ∧
      (portsOf v (decodeBuffer b buf)).role = roleBits (some (roleOf b buf)) := by
  rw [portsOf_of_decodedTo v h, ← identifier_of_decodedTo h]
  simp [framePorts, OutPorts.putFunction, functionCode_of_decodedTo_standard h hstd]

/-- The node-id valid port of a decoded standard frame is set. -/
theorem nodeIdValidPort_of_decodedTo_standard : (portsOf v (decodeBuffer b buf)).nodeIdValid = true := by
  rw [portsOf_of_decodedTo v h]
  simp [framePorts, OutPorts.putFunction, nodeId_of_decodedTo_standard h hstd]

end

/-! ### The query ports of a step -/

/-- The query ports show the raw value of a listed role (R48). -/
theorem queryPorts_tag_of_mem {m : List (BitVec 4 × FunctionCode)} {raw : BitVec 4} {r : FunctionCode}
    (hn : (m.map Prod.snd).Nodup) (h : (raw, r) ∈ m) : queryPorts m r.tag = ⟨true, raw⟩ := by
  rw [queryPorts, codeValue_tag_of_mem hn h, Option.isSome_some, Option.getD_some]

/-- A step drives only the decode path after the query is answered, whether its inputs were held or not (R48, R263). -/
theorem Machine.eq_ready_of_step {s t : State} (h : step s = .next t) : ∃ o, t = { ready s with out := o } := by
  cases hheld : (ready s).dataHeld with
  | true =>
    rw [step_of_ready_dataHeld hheld] at h
    cases h
    exact ⟨_, rfl⟩
  | false =>
    simp only [step, sampleStep, hheld, Bool.false_eq_true, if_false] at h
    cases h
    exact ⟨_, rfl⟩

/-- After a step whose `cv_tag` was held the query ports answer that tag (R48). -/
theorem Machine.step_cv_of_cvHeld {s t : State} {p : Sample} {rest : List Sample} (hp : s.pending = p :: rest)
    (hc : p.cvHeld = true) (h : step s = .next t) : t.cv = queryPorts s.build.fcMap p.ports.cvTag := by
  obtain ⟨o, rfl⟩ := eq_ready_of_step h
  exact ready_cv_of_cvHeld hp hc

/-! ### The statements -/

/-- Settles O20: the masks and the shift cut out the two bit slices, and a decoded standard frame shows both on its ports. -/
theorem functionCodeAndNodeIdFields : Obligations.FunctionCodeAndNodeIdFields := by
  refine ⟨fun id => ⟨fcRaw_eq_extractLsb' id, canopenNodeId_eq_extractLsb' id⟩, fun b v buf f h hstd => ?_⟩
  obtain ⟨hvalid, hraw, -⟩ := functionPorts_of_decodedTo_standard v h hstd
  exact ⟨hvalid, hraw.trans (fcRaw_eq_extractLsb' _), nodeIdValidPort_of_decodedTo_standard v h hstd,
    (nodeIdPort_of_decodedTo_standard v h hstd).trans (canopenNodeId_eq_extractLsb' _)⟩

/-- Settles O22: a legal table lists each raw value at most once, and a decoded standard frame shows the resolved role. -/
theorem resolveFollowsTheTable : Obligations.ResolveFollowsTheTable := by
  rintro b ⟨hraws, -, -, hnmt, hsync, hsdo⟩
  refine ⟨resolve_of_mem hraws hnmt, resolve_of_mem hraws hsync, resolve_of_mem hraws hsdo,
    fun raw role => resolve_of_mem hraws, fun raw => resolve_of_no_entry, fun v buf f h hstd => ?_⟩
  obtain ⟨-, -, htag, hrole⟩ := functionPorts_of_decodedTo_standard v h hstd
  refine ⟨functionCode_of_decodedTo_standard h hstd, htag, fun k _ => ?_⟩
  rw [hrole]
  exact roleBits_some_getLsbD _ k

/-- Settles O24: each lookup answers with an entry of the table, and a legal table is read back from an entry either way. -/
theorem resolveAndCodeValueRoundTrip : Obligations.ResolveAndCodeValueRoundTrip := by
  rintro m ⟨hraws, hroles, -⟩
  exact ⟨fun r v hv => resolve_of_mem hraws (mem_of_codeValue_tag hv),
    fun v hv => codeValue_tag_of_mem hroles (mem_of_resolve_ne_unknown hv)⟩

/-- Settles O25: the query ports are the reverse lookup of the held tag; tags 14 and 15 are the reserved ones of O49. -/
theorem queryPortsAnswerTheReverseLookup : Obligations.QueryPortsAnswerTheReverseLookup := by
  intro s t p rest hp hheld hok hstep
  rw [step_cv_of_cvHeld hp hheld hstep]
  refine ⟨fun raw role hmem htag => ?_, fun hnone => ?_, fun htag => ?_⟩
  · obtain ⟨-, hroles, -⟩ := hok
    rw [← htag]
    exact queryPorts_tag_of_mem hroles hmem
  · exact queryPorts_of_no_role (List.forall_mem_map.2 hnone)
  · obtain ⟨-, -, -, -, -, hquery⟩ := reservedCodesAreNeverProduced s.build true []
    obtain ⟨h14, h15⟩ := hquery hok
    obtain htag | htag := htag
    · rw [htag, h14]
    · rw [htag, h15]

/-- Settles O26: the role is resolved from the raw code alone, and both predicates ask for that one role. -/
theorem syncAndEmergencyAreOneRole : Obligations.SyncAndEmergencyAreOneRole := by
  rintro b buf f ⟨hraws, -, -, -, hsync, -⟩ h hstd hraw
  have hresolve : resolve b.fcMap 0x1 = .syncEmcy := resolve_of_mem hraws hsync
  have hrole : f.functionCode = some .syncEmcy := by
    rw [functionCode_of_decodedTo_standard h hstd, roleOf, hraw, hresolve]
  have hpred : f.hasRole .syncEmcy = true := decide_eq_true hrole
  exact ⟨hrole, hpred, hpred, by rw [nodeId_of_decodedTo_standard h hstd, canopenNodeId_eq_extractLsb']⟩

end Sys2Proof
end

section
/-! The SDO command rows (spec/44_sdo.md): what a row drives whatever its tag, what a tag that is no initiate leaves clear, and the
statement about the segment and block-download rows. -/

namespace Sys2Proof.Machine

open Sys2Proof.Claims

/-- The kind of the SDO sub-frame of a direction (R40, R203). -/
def sdoKind : Direction → BitVec 3
  | .rx => 2
  | .tx => 3

section
variable (dir : Direction) (cs : Byte) (o : SdoOperands) (s : State) {tag : SdoTag}

/-- The ports of an SDO command row: those of its fields, over a sub-frame of its direction's kind that is clear otherwise (R45, R46). -/
theorem driveSdo_out_eq_putSdo (tag : SdoTag) :
    (driveSdo dir cs tag o s).out = (s.out.clearSub (sdoKind dir)).putSdo (sdoFieldsOf s.build cs tag o) := by
  cases dir <;> rfl

/-- An SDO command row drives the slices and its tag in the sub-frame of its direction, and no port outside it (R183). -/
theorem sdoCommon_driveSdo (tag : SdoTag) : SdoCommon (sdoKind dir) cs tag.code o s (driveSdo dir cs tag o s) := by
  cases dir <;> exact ⟨rfl, rfl, rfl, rfl, rfl, rfl, rfl, rfl, rfl, rfl, rfl, leAssemble_four _ _ _ _⟩

/-- A tag that is no initiate has no expedited field, whatever byte 0 holds (R174, R175, R178). -/
theorem sdoFieldsOf_of_not_isInitiate (b : Build) (h : tag.isInitiate = false) :
    (sdoFieldsOf b cs tag o).expedited = false ∧ (sdoFieldsOf b cs tag o).sizeIndicated = false ∧
      (sdoFieldsOf b cs tag o).expeditedByteCount = 0 ∧ (sdoFieldsOf b cs tag o).expeditedData = none := by
  simp [sdoFieldsOf, sdoFlags, sdoCount, sdoData, h]

/-- The row of such a tag shows no expedited field (R45, R186). -/
theorem noExpedited_driveSdo (h : tag.isInitiate = false) : NoExpedited (driveSdo dir cs tag o s).out := by
  obtain ⟨he, hs, hcount, hdata⟩ := sdoFieldsOf_of_not_isInitiate cs o s.build h
  rw [driveSdo_out_eq_putSdo]
  simp [NoExpedited, OutPorts.putSdo, he, hs, hcount, hdata, sdoDataPort, leAssemble]

/-- The row of a tag other than abort transfer shows no abort entry (R180). -/
theorem abortPorts_driveSdo_of_ne (h : tag ≠ .abortTransfer) : abortPorts (driveSdo dir cs tag o s).out = (false, 0) := by
  have hentry : (sdoFieldsOf s.build cs tag o).abortEntry = none := if_neg h
  rw [driveSdo_out_eq_putSdo]
  simp [abortPorts, OutPorts.putSdo, hentry]

/-- A row whose tag is neither an initiate nor an abort transfer drives the slices and nothing else of an SDO frame (R186). -/
theorem exec_of_plain_tag (tag : SdoTag) {i : Instr} (hexec : exec i s = .next (driveSdo dir cs tag o s))
    (hinit : tag.isInitiate = false) (habort : tag ≠ .abortTransfer) :
    ∃ t, exec i s = .next t ∧ SdoCommon (sdoKind dir) cs tag.code o s t ∧ NoExpedited t.out ∧
      abortPorts t.out = (false, 0) :=
  ⟨_, hexec, sdoCommon_driveSdo dir cs o s tag, noExpedited_driveSdo dir cs o s hinit,
    abortPorts_driveSdo_of_ne dir cs o s habort⟩

end

/-- Settles O31: the tag of each of the six rows is neither an initiate nor an abort transfer. -/
theorem segmentRowsDriveNoExpeditedField : Obligations.SegmentRowsDriveNoExpeditedField := by
  intro o s
  simp only [segmentRows, List.forall_mem_cons, List.not_mem_nil, false_imp_iff, implies_true, and_true]
  exact ⟨exec_of_plain_tag .rx 0x00 o s .downloadSegment rfl rfl (by decide),
    exec_of_plain_tag .rx 0x60 o s .uploadSegment rfl rfl (by decide),
    exec_of_plain_tag .rx 0xC0 o s .blockDownload rfl rfl (by decide),
    exec_of_plain_tag .tx 0x00 o s .uploadSegment rfl rfl (by decide),
    exec_of_plain_tag .tx 0x20 o s .downloadSegment rfl rfl (by decide),
    exec_of_plain_tag .tx 0xA0 o s .blockDownload rfl rfl (by decide)⟩

end Sys2Proof.Machine
end

section
/-! SDO_DECODE (spec/44_sdo.md): the tag of a command specifier, the expedited fields of a decoded payload, and the statements about
them. -/

namespace Sys2Proof

open Sys2Proof.Claims Sys2Proof.Machine

/-! ### The tag -/

section
variable {b : Build} {dir : Direction} {p : Payload}

/-- The tag of a payload that decodes is listed with its command specifier (R171, R183). -/
theorem mem_sdoTable_of_sdoDecode_ok {x : SdoFields} (h : sdoDecode b dir p = .ok x) :
    (sdoCs p.p0, x.tag) ∈ sdoTable dir := by
  obtain ⟨tag, htag, rfl⟩ := sdoDecode_ok h
  exact tableFind_mem htag

/-- SDO_DECODE fails on a command specifier the table lacks, with that value, and on nothing else (R172). -/
theorem sdoDecode_error {e : DecodeError} (h : sdoDecode b dir p = .error e) :
    e = .unknownSdoCommand (sdoCs p.p0) ∧ sdoTagOf dir (sdoCs p.p0) = none := by
  cases htag : sdoTagOf dir (sdoCs p.p0) with
  | none =>
    rw [sdoDecode_of_sdoTagOf_none htag] at h
    exact ⟨(Except.error.inj h).symm, rfl⟩
  | some tag =>
    rw [sdoDecode_eq_sdoFieldsOf htag] at h
    cases h

end

/-- The command specifiers the receive table lacks are among these two (R171, R96). -/
theorem sdoCs_of_sdoTagOf_rx_none : ∀ b0, sdoTagOf .rx (sdoCs b0) = none → sdoCs b0 = 0xA0 ∨ sdoCs b0 = 0xE0 := by
  decide

/-- The command specifiers the transmit table lacks are among these two (R171, R96). -/
theorem sdoCs_of_sdoTagOf_tx_none : ∀ b0, sdoTagOf .tx (sdoCs b0) = none → sdoCs b0 = 0xC0 ∨ sdoCs b0 = 0xE0 := by
  decide

/-- Settles O34: in each direction an answer is a table entry, and an error one of the two values the table lacks. -/
theorem sdoTagsByDirection : Obligations.SdoTagsByDirection := by
  intro b p
  constructor
  · cases h : sdoDecode b .rx p with
    | ok x => exact mem_sdoTable_of_sdoDecode_ok h
    | error e =>
      obtain ⟨he, hnone⟩ := sdoDecode_error h
      exact ⟨he, sdoCs_of_sdoTagOf_rx_none p.p0 hnone⟩
  · cases h : sdoDecode b .tx p with
    | ok x => exact mem_sdoTable_of_sdoDecode_ok h
    | error e =>
      obtain ⟨he, hnone⟩ := sdoDecode_error h
      exact ⟨he, sdoCs_of_sdoTagOf_tx_none p.p0 hnone⟩

/-! ### The expedited fields -/

section
variable {tag : SdoTag} {b0 : Byte}

/-- An initiate tag reads its flags from bits 1 and 0 (R174). -/
theorem sdoFlags_of_isInitiate (h : tag.isInitiate = true) : sdoFlags tag b0 = (b0.getLsbD 1, b0.getLsbD 0) := if_pos h

/-- Only an initiate tag is expedited (R174). -/
theorem isInitiate_of_expedited (h : (sdoFlags tag b0).1 = true) : tag.isInitiate = true := by
  cases htag : tag.isInitiate with
  | true => rfl
  | false => simp [sdoFlags, htag] at h

/-- The count of an initiate tag is 4 - n (R175). -/
theorem sdoCount_toNat_of_isInitiate (h : tag.isInitiate = true) : (sdoCount tag b0).toNat = 4 - (sdoN b0).toNat := by
  rw [sdoCount, if_pos h, count_toNat]

/-- Expedited data are the first `count` of the four data bytes (R178). -/
theorem sdoData_of_expedited (h : (sdoFlags tag b0).1 = true) (data : List Byte) :
    sdoData tag b0 data = some (data.take (sdoCount tag b0).toNat) := if_pos h

/-- A frame that is not expedited has no data (R178, R184). -/
theorem sdoData_of_not_expedited (h : (sdoFlags tag b0).1 = false) (data : List Byte) : sdoData tag b0 data = none := by
  simp [sdoData, h]

end

/-- The first payload byte of a decoded frame (R61, R114). -/
theorem payload_p0_of_decodedTo {b : Build} {buf : List Byte} {f : CanOpenFrame} {b0 : Byte} (hf : decodedTo b buf f)
    (h0 : FirstPayloadByte buf b0) : f.raw.payload.p0 = b0 := by
  obtain ⟨hparse, -⟩ := parse_of_decodedTo hf
  unfold parseFrame at hparse
  split at hparse
  · cases hparse
  · rw [← Except.ok.inj hparse]
    exact memRead_one h0

/-- Settles O35: an expedited tag is an initiate, so its count is 4 - n with n of two bits, and the data are that many of four. -/
theorem expeditedCountMatchesTheData : Obligations.ExpeditedCountMatchesTheData := by
  intro b buf f x hf hx hexp
  obtain ⟨dir, hdec⟩ := sdoDecode_of_decodedTo hf hx
  obtain ⟨tag, -, rfl⟩ := sdoDecode_ok hdec
  have hcount := sdoCount_toNat_of_isInitiate (b0 := f.raw.payload.p0) (isInitiate_of_expedited hexp)
  have hn : (sdoN f.raw.payload.p0).toNat < 4 := BitVec.isLt _
  exact ⟨by dsimp only; omega, by dsimp only; omega, _, sdoData_of_expedited hexp _,
    by simp only [List.length_take, List.length_cons, List.length_nil]; omega⟩

/-- Settles O36: the tag is an initiate, so bits 1 and 0 are the flags and the count is 4 - n; bit 1 clear leaves no data. -/
theorem segmentedInitiateCarriesNoData : Obligations.SegmentedInitiateCarriesNoData := by
  intro b buf f x b0 hf hx h0 htag hbit
  obtain ⟨dir, hdec⟩ := sdoDecode_of_decodedTo hf hx
  obtain ⟨tag, -, rfl⟩ := sdoDecode_ok hdec
  rw [payload_p0_of_decodedTo hf h0]
  have hinit : tag.isInitiate = true := by obtain rfl | rfl := htag <;> rfl
  have hflags : sdoFlags tag b0 = (false, b0.getLsbD 0) := by rw [sdoFlags_of_isInitiate hinit, hbit]
  exact ⟨by rw [hflags], sdoData_of_not_expedited (by rw [hflags]) _, by rw [hflags], sdoCount_toNat_of_isInitiate hinit⟩

end Sys2Proof
end

section
/-! The abort table (spec/44_sdo.md): the lookup as the inverse of the table's codes, the texts, and the statements about them. -/

namespace Sys2Proof

open Sys2Proof.Claims

section
variable {t : List (BitVec 32 × String)} {code : BitVec 32}

/-- Codes that ascend are listed once each (R182). -/
theorem AbortTableOk.nodup (h : AbortTableOk t) : (t.map Prod.fst).Nodup := by
  obtain ⟨hascending, -⟩ := h
  exact hascending.imp BitVec.ne_of_lt

/-- In a table that lists no code twice the lookup answers exactly the position of the code (R181). -/
theorem abortLookup_eq_some_iff (hn : (t.map Prod.fst).Nodup) (i : Nat) :
    abortLookup t code = some i ↔ (t[i]?).map Prod.fst = some code := by
  refine ⟨abortLookup_some, fun hi => ?_⟩
  rw [← List.getElem?_map] at hi
  cases hfound : abortLookup t code with
  | none => exact absurd hfound (by simpa [abortLookup_none] using List.mem_of_getElem? hi)
  | some j =>
    have hj := abortLookup_some hfound
    rw [← List.getElem?_map] at hj
    obtain ⟨hlt, -⟩ := List.getElem?_eq_some_iff.1 hj
    rw [(List.getElem?_inj hlt hn).1 (hj.trans hi.symm)]

/-- A code listed once is found with the text of its entry (R181, R182). -/
theorem abortMessage_of_mem {text : String} (hn : (t.map Prod.fst).Nodup) (h : (code, text) ∈ t) :
    (abortLookup t code).bind (abortMessage t) = some text := by
  obtain ⟨i, hi⟩ := List.mem_iff_getElem?.1 h
  rw [(abortLookup_eq_some_iff hn i).2 (by rw [hi]; rfl), Option.bind_some, abortMessage, hi]
  rfl

/-- The abort-entry ports of a lookup in a legal table: its at most 32 positions fit the port (R45, R181). -/
theorem showsLookup_of_ports {o : OutPorts} (ht : AbortTableOk t) (hhit : o.abortHit = (abortLookup t code).isSome)
    (hidx : o.abortIdx = BitVec.ofNat 5 ((abortLookup t code).getD 0)) : ShowsLookup t code o := by
  refine ⟨fun i hi => ?_, fun hmiss => ?_⟩
  · have hfound := (abortLookup_eq_some_iff ht.nodup i).2 hi
    obtain ⟨-, -, hlen, -⟩ := ht
    have hi32 : i < 32 := by
      by_contra hge
      simp [List.getElem?_eq_none (show t.length ≤ i by omega)] at hi
    simp [hhit, hidx, hfound, Nat.mod_eq_of_lt hi32]
  · rw [abortPorts, hhit, hidx, abortLookup_none.2 hmiss]
    rfl

end

/-- Settles O43: SDO_DECODE makes the entry by that rule. -/
theorem onlyAbortTransferHasAnEntry : Obligations.OnlyAbortTransferHasAnEntry := by
  intro b dir p x h
  obtain ⟨tag, -, rfl⟩ := sdoDecode_ok h
  rfl

/-- Settles O38: codes that ascend are distinct; the entry of a decoded abort transfer is the lookup (O43), and its ports show it. -/
theorem abortLookupIsExact : Obligations.AbortLookupIsExact := by
  refine ⟨fun t code ht => ⟨abortLookup_eq_some_iff ht.nodup, abortLookup_none⟩, fun b v buf f x ht hf hx htag => ?_⟩
  obtain ⟨dir, hdec⟩ := sdoDecode_of_decodedTo hf hx
  have hentry : x.abortEntry = abortLookup b.abortTable x.abortCode := by
    rw [onlyAbortTransferHasAnEntry b dir _ x hdec, if_pos htag]
  obtain ⟨-, -, hhit, hidx⟩ := framePorts_of_sdoFieldsIn v hx
  rw [portsOf_of_decodedTo v hf]
  exact showsLookup_of_ports ht (hentry ▸ hhit) (hentry ▸ hidx)

/-- Settles O39: a legal table lists both entries. -/
theorem documentAbortEntriesAlwaysHit : Obligations.DocumentAbortEntriesAlwaysHit := by
  intro t ht
  have hn := ht.nodup
  obtain ⟨-, -, -, htoggle, hnoObject⟩ := ht
  exact ⟨abortMessage_of_mem hn htoggle, abortMessage_of_mem hn hnoObject⟩

end Sys2Proof
end

section
/-! DECODE as a whole (spec/45_compose.md): the frames and the errors it can answer, and the statements about extended frames
(R202), the role port (R205) and the three ways to fail (R207). -/

namespace Sys2Proof

open Sys2Proof.Claims

/-! ### Extended frames -/

/-- A 16-byte buffer parses, to its own identifier and to payload byte 0 from offset 8 (R61, R110). -/
theorem parse_identOf_firstPayloadByte {buf : List Byte} (h : buf.length = 16) :
    ∃ raw, parseFrame buf = .ok raw ∧ raw.identifier = identOf buf ∧ FirstPayloadByte buf raw.payload.p0 := by
  obtain ⟨raw, hparse, -, -, -, hwindow⟩ := parse_of_length_sixteen h
  obtain ⟨hid, -⟩ := parseFrame_reads hparse
  refine ⟨raw, hparse, hid, ?_⟩
  calc buf[8]? = ((buf.drop 8).take 8)[0]? := by simp
    _ = some raw.payload.p0 := by rw [hwindow]; rfl

/-- A 16-byte buffer with an extended identifier decodes, to no function code, no node id and an opaque payload (R202). -/
theorem decodedTo_of_isExtended (b : Build) {buf : List Byte} (hlen : buf.length = 16)
    (hext : isExtended (identOf buf) = true) :
    ∃ raw, decodedTo b buf { raw := raw, functionCode := none, nodeId := none, subFrame := .unknown raw.payload } := by
  obtain ⟨raw, hparse, hid, -⟩ := parse_identOf_firstPayloadByte hlen
  refine ⟨raw, ?_⟩
  rw [decodedTo, decodeBuffer_of_parse hparse]
  exact decodeRaw_extended (hid ▸ hext)

/-- The function-code and node-id ports of a frame that has neither (R46). -/
theorem functionPorts_framePorts_of_none (v : Bool) {f : CanOpenFrame} (hfc : f.functionCode = none)
    (hnode : f.nodeId = none) : functionPorts (framePorts v f) = functionPorts OutPorts.zero := by
  obtain ⟨hvalid, hraw, htag, hrole⟩ := framePorts_of_functionCode_none v hfc
  obtain ⟨hnodeValid, hnodeId⟩ := framePorts_of_nodeId_none v hnode
  rw [functionPorts, hvalid, hraw, htag, hrole, hnodeValid, hnodeId]
  rfl

/-- Settles O45: the frame it decodes to is written out, and its absent values read 0 (O48). -/
theorem extendedFrameNeverRaises : Obligations.ExtendedFrameNeverRaises := by
  intro b v buf hlen hext
  obtain ⟨raw, hf⟩ := decodedTo_of_isExtended b hlen hext
  refine ⟨_, hf, rfl, rfl, rfl, ?_⟩
  rw [portsOf_of_decodedTo v hf, framePorts_subKind]
  exact ⟨functionPorts_framePorts_of_none v rfl rfl, rfl⟩

/-! ### The role port -/

/-- A decoded extended frame has no function code (R202). -/
theorem functionCode_of_decodedTo_extended {b : Build} {buf : List Byte} {f : CanOpenFrame} (h : decodedTo b buf f)
    (hext : isExtended (identOf buf) = true) : f.functionCode = none := by
  have hid := identifier_of_decodedTo h
  obtain ⟨-, hraw⟩ := parse_of_decodedTo h
  obtain ⟨-, hf⟩ | ⟨hstd, -⟩ := decodeRaw_ok hraw
  · rw [hf]
  · simp [hid, hext] at hstd

/-- The role port of a frame shows its function code, if it has one (R45). -/
theorem framePorts_role (v : Bool) (f : CanOpenFrame) : (framePorts v f).role = roleBits f.functionCode := by
  cases hfc : f.functionCode <;> simp [framePorts, hfc, OutPorts.putFunction]

/-- The bit of a role's tag is the predicate of that role (R205). -/
theorem roleBits_getLsbD_tag (f : CanOpenFrame) (r : FunctionCode) :
    (roleBits f.functionCode).getLsbD r.tag.toNat = f.hasRole r := by
  rw [CanOpenFrame.hasRole]
  cases f.functionCode with
  | none => simp [roleBits]
  | some c =>
    have hiff : r.tag.toNat = c.tag.toNat ↔ c = r :=
      ⟨fun h => (FunctionCode.tag_injective r c (BitVec.eq_of_toNat_eq h)).symm, fun h => by rw [h]⟩
    simp [roleBits_some_getLsbD, hiff]

/-- The role port has at most one bit set (R45). -/
theorem roleBits_getLsbD_unique {fc : Option FunctionCode} {j k : Nat} (hj : (roleBits fc).getLsbD j = true)
    (hk : (roleBits fc).getLsbD k = true) : j = k := by
  cases fc with
  | none => simp [roleBits] at hj
  | some c =>
    rw [roleBits_some_getLsbD, decide_eq_true_eq] at hj hk
    rw [hj, hk]

/-- The roles in the order of their tags (R36). -/
def rolesByTag : List FunctionCode :=
  [.nmtMc, .syncEmcy, .timestamp, .pdo1Tx, .pdo1Rx, .pdo2Tx, .pdo2Rx, .pdo3Tx, .pdo3Rx, .pdo4Tx, .pdo4Rx, .sdoTx, .sdoRx,
   .nmtNodeGuard, .unknown]

/-- Their tags are 0 to 14 (R36). -/
theorem rolesByTag_map_tag : rolesByTag.map (fun r => r.tag.toNat) = List.range 15 := by decide

/-- The bits of the role port, in order, are the predicates of the roles in the order of their tags (R205). -/
theorem roleBits_eq_hasRole (f : CanOpenFrame) :
    (List.range 15).map (roleBits f.functionCode).getLsbD = rolesByTag.map f.hasRole := by
  rw [← rolesByTag_map_tag, List.map_map]
  exact List.map_congr_left fun r _ => roleBits_getLsbD_tag f r

/-- Settles O27: an error's role port is 0; a frame's is `roleBits` of its function code, whose bits are the predicates. -/
theorem rolePortShowsThePredicates : Obligations.RolePortShowsThePredicates := by
  refine ⟨fun b v buf e he => by rw [he, portsOf_error]; rfl, fun b v buf f hf => ?_⟩
  have hrole : (portsOf v (decodeBuffer b buf)).role = roleBits f.functionCode := by
    rw [portsOf_of_decodedTo v hf, framePorts_role]
  obtain ⟨hext, hstd, hrtr, herr⟩ := flagPorts_of_decodedTo v hf
  dsimp only
  rw [hrole]
  refine ⟨fun h => ?_, roleBits_eq_hasRole f, rfl, ?_, fun j k => roleBits_getLsbD_unique⟩
  · rw [functionCode_of_decodedTo_extended hf h, roleBits]
  · rw [hext, hstd, hrtr, herr, ← identifier_of_decodedTo hf]
    rfl

/-! ### The ways to fail -/

/-- NMT_DECODE fails with payload byte 0 and in no other way (R161). -/
theorem nmtDecode_error {p : Payload} {e : DecodeError} (h : nmtDecode p = .error e) : e = .unknownNmtCommand p.p0 := by
  unfold nmtDecode at h
  split at h
  · cases h
  · exact (Except.error.inj h).symm

/-- An error under `Except.map` is an error before it. -/
theorem eq_error_of_map_eq_error {ε α β : Type} {g : α → β} {r : Except ε α} {e : ε} (h : r.map g = .error e) :
    r = .error e := by
  cases r with
  | error e' => rw [Except.error.inj h]
  | ok a => cases h

/-- Only the payload decoders of the NMT and SDO roles fail (R203, R207). -/
theorem subFrameOf_error {b : Build} {role : FunctionCode} {p : Payload} {e : DecodeError}
    (h : subFrameOf b role p = .error e) :
    (e = .unknownNmtCommand p.p0 ∧ role = .nmtMc) ∨
      (e = .unknownSdoCommand (sdoCs p.p0) ∧ (role = .sdoRx ∨ role = .sdoTx)) := by
  cases role with
  | nmtMc => exact .inl ⟨nmtDecode_error h, rfl⟩
  | sdoRx =>
    obtain ⟨he, -⟩ := sdoDecode_error (eq_error_of_map_eq_error h)
    exact .inr ⟨he, .inl rfl⟩
  | sdoTx =>
    obtain ⟨he, -⟩ := sdoDecode_error (eq_error_of_map_eq_error h)
    exact .inr ⟨he, .inr rfl⟩
  | _ => cases h

/-- DECODE of a parsed frame fails only on a standard frame, with the error of its sub-frame (R200, R202). -/
theorem decodeRaw_error {b : Build} {raw : RawFrame} {e : DecodeError} (h : decodeRaw b raw = .error e) :
    subFrameOf b (resolve b.fcMap (fcRaw raw.identifier)) raw.payload = .error e := by
  cases hext : isExtended raw.identifier with
  | true =>
    rw [decodeRaw_extended hext] at h
    cases h
  | false =>
    rw [decodeRaw_standard hext] at h
    exact eq_error_of_map_eq_error h

/-- Settles O46: another length fails in PARSE; a parsed buffer fails only where the sub-frame of its role does. -/
theorem decodeFailsOnlyInThreeWays : Obligations.DecodeFailsOnlyInThreeWays := by
  intro b buf e h
  by_cases hlen : buf.length = 16
  · obtain ⟨raw, hparse, hid, hfirst⟩ := parse_identOf_firstPayloadByte hlen
    rw [decodeBuffer_of_parse hparse] at h
    have hsub := decodeRaw_error h
    rw [hid, fcRaw_eq_extractLsb'] at hsub
    obtain ⟨he, hrole⟩ | ⟨he, hrole⟩ := subFrameOf_error hsub
    · exact .inr (.inl ⟨_, he, hfirst, hrole⟩)
    · exact .inr (.inr ⟨_, he, hfirst, hrole⟩)
  · rw [decodeBuffer_of_length hlen] at h
    exact .inl ⟨(Except.error.inj h).symm, hlen⟩

end Sys2Proof
end

section
/-! Two standard frames that differ in their identifier alone: which parts of DECODE see the difference, and the statement about
the RTR and ERR flags (R204). -/

namespace Sys2Proof

open Sys2Proof.Claims

/-! ### A frame with another identifier -/

/-- A RawFrame with another identifier. -/
def RawFrame.withIdentifier (id : Ident) (raw : RawFrame) : RawFrame := { raw with identifier := id }

/-- PARSE reads bytes 0 to 3 into the identifier and nowhere else (R111). -/
theorem parseFrame_of_agreeOff_identifier {x y : List Byte} (h : AgreeOff [0, 1, 2, 3] x y) :
    parseFrame y = (parseFrame x).map (RawFrame.withIdentifier (identOf y)) := by
  have hread (a n : Nat) (ha : 4 ≤ a) : memRead y a n = memRead x a n :=
    congrArg (leAssemble (8 * n)) (window_eq_of_agreeOff h fun i _ => by simp; omega).symm
  obtain ⟨hlen, -⟩ := h
  by_cases hx : x.length = 16
  · simp [parseFrame, ← hlen, hx, Except.map, RawFrame.withIdentifier, identOf, hread]
  · simp [parseFrame, ← hlen, hx, Except.map]

/-! ### The identifier under the mask that leaves out bits 30 and 29 -/

/-- Words that agree under a mask have the same slice where the mask is all ones. -/
theorem extractLsb'_eq_of_and_eq {w : Nat} {x y m : BitVec w} (h : x &&& m = y &&& m) {a n : Nat}
    (hm : m.extractLsb' a n = BitVec.allOnes n) : x.extractLsb' a n = y.extractLsb' a n := by
  simpa [BitVec.extractLsb'_and, hm] using congrArg (BitVec.extractLsb' a n) h

section
variable {id id' : Ident} (h : id &&& 0x9FFFFFFF = id' &&& 0x9FFFFFFF)
include h

/-- Bits 30 and 29 are not the class bit (R121). -/
theorem isExtended_eq_of_agreeOffFlags : isExtended id = isExtended id' := by
  rw [isExtended_eq_getLsbD, isExtended_eq_getLsbD]
  simpa using congrArg (BitVec.getLsbD · 31) h

/-- Bits 30 and 29 are in no address (R125 to R128). -/
theorem addresses_eq_of_agreeOffFlags :
    nodeAddress id = nodeAddress id' ∧ stdAddress id = stdAddress id' ∧ extAddress id = extAddress id' ∧
      errBits id = errBits id' := by
  have hext : extAddress id = extAddress id' := by
    rw [extAddress_eq_extractLsb', extAddress_eq_extractLsb', extractLsb'_eq_of_and_eq h (by decide)]
  have hstd : stdAddress id = stdAddress id' := by
    rw [stdAddress_eq_extractLsb', stdAddress_eq_extractLsb', extractLsb'_eq_of_and_eq h (by decide)]
  have herr : errBits id = errBits id' := by
    rw [errBits_eq_extractLsb', errBits_eq_extractLsb', extractLsb'_eq_of_and_eq h (by decide)]
  exact ⟨by rw [nodeAddress, nodeAddress, isExtended_eq_of_agreeOffFlags h, hext, hstd], hstd, hext, herr⟩

/-- Bits 30 and 29 are not in the function code nor in the node id (R140, R144). -/
theorem functionFields_eq_of_agreeOffFlags : fcRaw id = fcRaw id' ∧ canopenNodeId id = canopenNodeId id' := by
  rw [fcRaw_eq_extractLsb', fcRaw_eq_extractLsb', canopenNodeId_eq_extractLsb', canopenNodeId_eq_extractLsb']
  exact ⟨extractLsb'_eq_of_and_eq h (by decide), extractLsb'_eq_of_and_eq h (by decide)⟩

end

/-! ### The ports -/

/-- The sub-frame ports are apart from `id` and the flags (R45). -/
theorem blankFlags_putSub (o : OutPorts) (s : SubFrame) : blankFlags (o.putSub s) = (blankFlags o).putSub s := by
  cases s <;> rfl

/-- Ports that agree but for `id` and the flags still do when a payload decoder has answered. -/
theorem blankFlags_putSubResult (v : Bool) {o o' : OutPorts} (h : blankFlags o = blankFlags o')
    (r : Except DecodeError SubFrame) :
    blankFlags (OutPorts.putSubResult v o r) = blankFlags (OutPorts.putSubResult v o' r) := by
  cases r with
  | error e => rfl
  | ok s => rw [OutPorts.putSubResult, OutPorts.putSubResult, blankFlags_putSub, blankFlags_putSub, h]

/-- Ports that agree but for `id` and the flags still do when the function code is driven. -/
theorem blankFlags_putFunction {o o' : OutPorts} (h : blankFlags o = blankFlags o')
    (fc : Option (BitVec 4 × FunctionCode)) (node : Option (BitVec 7)) :
    blankFlags (o.putFunction fc node) = blankFlags (o'.putFunction fc node) :=
  congrArg (OutPorts.putFunction · fc node) h

/-- The identifier ports but `id` and the flags see nothing of bits 30 and 29. -/
theorem blankFlags_identifierPorts_withIdentifier (v : Bool) {raw : RawFrame} {id : Ident}
    (h : raw.identifier &&& 0x9FFFFFFF = id &&& 0x9FFFFFFF) :
    blankFlags (identifierPorts v raw) = blankFlags (identifierPorts v (raw.withIdentifier id)) := by
  obtain ⟨hnode, hstd, hext, herr⟩ := addresses_eq_of_agreeOffFlags h
  simp only [blankFlags, identifierPorts, RawFrame.withIdentifier, OutPorts.ofRaw, isStandard,
    isExtended_eq_of_agreeOffFlags h, hnode, hstd, hext, herr]

/-- DECODE of a standard frame passes bits 30 and 29 to `id` and the flag ports alone (R204). -/
theorem blankFlags_portsOf_decodeRaw_withIdentifier (v : Bool) (b : Build) {raw : RawFrame} {id : Ident}
    (hstd : isExtended raw.identifier = false) (h : raw.identifier &&& 0x9FFFFFFF = id &&& 0x9FFFFFFF) :
    blankFlags (portsOf v (decodeRaw b raw)) = blankFlags (portsOf v (decodeRaw b (raw.withIdentifier id))) := by
  have hstd' : isExtended id = false := (isExtended_eq_of_agreeOffFlags h).symm.trans hstd
  obtain ⟨hraw, hnode⟩ := functionFields_eq_of_agreeOffFlags h
  rw [portsOf_decodeRaw_standard v b hstd, portsOf_decodeRaw_standard v b (raw := raw.withIdentifier id) hstd', hraw, hnode]
  exact blankFlags_putSubResult v (blankFlags_putFunction (blankFlags_identifierPorts_withIdentifier v h) _ _) _

/-- Settles O17: both buffers fail in PARSE, or parse to frames that differ in the identifier alone. -/
theorem rtrAndErrTakeNoPartInDispatch : Obligations.RtrAndErrTakeNoPartInDispatch := by
  intro b v x y hxy hstd hid
  have hparse := parseFrame_of_agreeOff_identifier hxy
  cases hx : parseFrame x with
  | error e => simp [decodeBuffer, hparse, hx, Except.map]
  | ok raw =>
    obtain ⟨hident, -⟩ := parseFrame_reads hx
    have hrawid : raw.identifier = identOf x := hident
    rw [hx] at hparse
    rw [decodeBuffer_of_parse hx, decodeBuffer_of_parse hparse]
    refine blankFlags_portsOf_decodeRaw_withIdentifier v b ?_ (hrawid ▸ hid)
    simpa [isStandard, hrawid] using hstd

end Sys2Proof
end

section
/-! The exceptions (spec/60_exceptions.md): the exact cause of each error of DECODE, the status codes as the errors they stand for
(R230, R231), and a miss in the abort table, which is no error (R234). -/

namespace Sys2Proof

open Sys2Proof.Claims Sys2Proof.Machine

/-! ### The cause of each error -/

/-- The NMT role alone answers UnknownNmtCommand, with payload byte 0, when the table lacks that byte (R160, R162). -/
theorem subFrameOf_eq_unknownNmtCommand_iff {b : Build} {role : FunctionCode} {p : Payload} {c : Byte} :
    subFrameOf b role p = .error (.unknownNmtCommand c) ↔
      c = p.p0 ∧ role = .nmtMc ∧ p.p0 ∉ nmtTable.map Prod.fst := by
  constructor
  · intro h
    obtain ⟨he, rfl⟩ | ⟨he, -⟩ := subFrameOf_error h
    · refine ⟨DecodeError.unknownNmtCommand.inj he, rfl, fun hmem => ?_⟩
      obtain ⟨⟨key, command⟩, hentry, hkey⟩ := List.mem_map.1 hmem
      obtain rfl : key = p.p0 := hkey
      rw [subFrameOf, nmtDecode_of_mem hentry] at h
      cases h
    · cases he
  · rintro ⟨rfl, rfl, hlacks⟩
    exact nmtDecode_of_not_mem hlacks

/-- The two SDO roles alone answer UnknownSdoCommand, with the command specifier, when the table of their direction lacks it
(R172). -/
theorem subFrameOf_eq_unknownSdoCommand_iff {b : Build} {role : FunctionCode} {p : Payload} {c : Byte} :
    subFrameOf b role p = .error (.unknownSdoCommand c) ↔ c = sdoCs p.p0 ∧
      ((role = .sdoRx ∧ sdoTagOf .rx (sdoCs p.p0) = none) ∨ (role = .sdoTx ∧ sdoTagOf .tx (sdoCs p.p0) = none)) := by
  constructor
  · intro h
    obtain ⟨he, -⟩ | ⟨he, rfl | rfl⟩ := subFrameOf_error h
    · cases he
    · obtain ⟨-, hnone⟩ := sdoDecode_error (eq_error_of_map_eq_error h)
      exact ⟨DecodeError.unknownSdoCommand.inj he, .inl ⟨rfl, hnone⟩⟩
    · obtain ⟨-, hnone⟩ := sdoDecode_error (eq_error_of_map_eq_error h)
      exact ⟨DecodeError.unknownSdoCommand.inj he, .inr ⟨rfl, hnone⟩⟩
  · rintro ⟨rfl, ⟨rfl, hnone⟩ | ⟨rfl, hnone⟩⟩ <;>
    · rw [subFrameOf, sdoDecode_of_sdoTagOf_none hnone]
      rfl

/-- The command specifiers the receive table lacks (R96, R171). -/
theorem sdoTagOf_rx_eq_none_iff (b0 : Byte) : sdoTagOf .rx (sdoCs b0) = none ↔ sdoCs b0 ∈ [0xA0#8, 0xE0] :=
  ⟨fun h => by simpa using sdoCs_of_sdoTagOf_rx_none b0 h, sdoTagOf_rx_illegal _⟩

/-- The command specifiers the transmit table lacks (R96, R171). -/
theorem sdoTagOf_tx_eq_none_iff (b0 : Byte) : sdoTagOf .tx (sdoCs b0) = none ↔ sdoCs b0 ∈ [0xC0#8, 0xE0] :=
  ⟨fun h => by simpa using sdoCs_of_sdoTagOf_tx_none b0 h, sdoTagOf_tx_illegal _⟩

/-- DECODE of a 16-byte buffer fails exactly on a standard frame whose role refuses the payload, with that error (R200, R202). -/
theorem decodeBuffer_eq_error_iff {buf : List Byte} {b0 : Byte} (hlen : buf.length = 16) (h0 : FirstPayloadByte buf b0) :
    ∃ p : Payload, p.p0 = b0 ∧ ∀ b e, decodeBuffer b buf = .error e ↔
      isStandard (identOf buf) = true ∧ subFrameOf b (roleOf b buf) p = .error e := by
  obtain ⟨raw, hparse, hid, hfirst⟩ := parse_identOf_firstPayloadByte hlen
  refine ⟨raw.payload, Option.some.inj (hfirst.symm.trans h0), fun b e => ?_⟩
  rw [decodeBuffer_of_parse hparse, roleOf, ← hid, ← fcRaw_eq_extractLsb', isStandard]
  cases hext : isExtended raw.identifier with
  | true => simp [decodeRaw_extended hext]
  | false =>
    refine ⟨fun h => ⟨rfl, decodeRaw_error h⟩, fun ⟨_, h⟩ => ?_⟩
    rw [decodeRaw_standard hext, h]
    rfl

/-- DECODE answers InvalidFrameLength exactly on a buffer of another length than 16 (R110, R230). -/
theorem decodeBuffer_eq_invalidFrameLength_iff {b : Build} {buf : List Byte} :
    decodeBuffer b buf = .error .invalidFrameLength ↔ buf.length ≠ 16 := by
  refine ⟨fun h => ?_, decodeBuffer_of_length⟩
  obtain ⟨-, hlen⟩ | ⟨c, he, -⟩ | ⟨c, he, -⟩ := decodeFailsOnlyInThreeWays b buf _ h
  · exact hlen
  · cases he
  · cases he

section
variable {b : Build} {buf : List Byte} {b0 c : Byte} (h0 : buf.length = 16 → FirstPayloadByte buf b0)
include h0

/-- DECODE answers UnknownNmtCommand exactly on a standard NMT frame with a byte outside the table, and with that byte (R162,
R231). -/
theorem decodeBuffer_eq_unknownNmtCommand_iff :
    decodeBuffer b buf = .error (.unknownNmtCommand c) ↔ c = b0 ∧ (buf.length = 16 ∧ isStandard (identOf buf) = true) ∧
      roleOf b buf = .nmtMc ∧ b0 ∉ nmtTable.map Prod.fst := by
  by_cases hlen : buf.length = 16
  · obtain ⟨p, rfl, herr⟩ := decodeBuffer_eq_error_iff hlen (h0 hlen)
    rw [herr, subFrameOf_eq_unknownNmtCommand_iff, and_left_comm, eq_true hlen, true_and]
  · simp [decodeBuffer_of_length hlen, hlen]

/-- DECODE answers UnknownSdoCommand exactly on a standard SDO frame with a command specifier its direction lacks, and with that
command specifier (R172, R231). -/
theorem decodeBuffer_eq_unknownSdoCommand_iff :
    decodeBuffer b buf = .error (.unknownSdoCommand c) ↔
      c = sdoCs b0 ∧ (buf.length = 16 ∧ isStandard (identOf buf) = true) ∧
        ((roleOf b buf = .sdoRx ∧ sdoCs b0 ∈ [0xA0#8, 0xE0]) ∨ (roleOf b buf = .sdoTx ∧ sdoCs b0 ∈ [0xC0#8, 0xE0])) := by
  by_cases hlen : buf.length = 16
  · obtain ⟨p, rfl, herr⟩ := decodeBuffer_eq_error_iff hlen (h0 hlen)
    rw [herr, subFrameOf_eq_unknownSdoCommand_iff, and_left_comm, eq_true hlen, true_and, sdoTagOf_rx_eq_none_iff,
      sdoTagOf_tx_eq_none_iff]
  · simp [decodeBuffer_of_length hlen, hlen]

end

/-! ### The status codes -/

/-- Each status code that DECODE shows stands for one kind of decode result (R230). -/
theorem portsOf_status_iff (v : Bool) (r : Except DecodeError CanOpenFrame) :
    ((portsOf v r).status = 0 ↔ ∃ f, r = .ok f) ∧ ((portsOf v r).status = 1 ↔ r = .error .invalidFrameLength) ∧
      ((portsOf v r).status = 3 ↔ ∃ c, r = .error (.unknownNmtCommand c)) ∧
      ((portsOf v r).status = 4 ↔ ∃ c, r = .error (.unknownSdoCommand c)) := by
  cases r with
  | ok f =>
    obtain ⟨hstatus, -⟩ := framePorts_status v f
    simp [portsOf, hstatus]
  | error e => cases e <;> simp [portsOf_error, errorOut, DecodeError.code]

/-- Beside its status code an error shows its value (R231). -/
theorem portsOf_errValue_of_eq_error (v : Bool) {r : Except DecodeError CanOpenFrame} {e : DecodeError} (h : r = .error e) :
    (portsOf v r).errValue = e.value := by
  rw [h]
  rfl

/-- The codes 2 and 5 to 7 are never shown: no decode fails with UnknownFunctionCode, and no error has a code past 4 (R230, R233). -/
theorem portsOf_decodeBuffer_status_not_mem (b : Build) (v : Bool) (buf : List Byte) :
    (portsOf v (decodeBuffer b buf)).status ∉ [2#3, 5, 6, 7] := by
  cases hd : decodeBuffer b buf with
  | ok f =>
    obtain ⟨hstatus, -⟩ := framePorts_status v f
    rw [portsOf, hstatus]
    decide
  | error e =>
    obtain ⟨rfl, -⟩ | ⟨c, rfl, -⟩ | ⟨c, rfl, -⟩ := decodeFailsOnlyInThreeWays b buf e hd <;>
    · simp [portsOf_error, errorOut, DecodeError.code]

/-- Settles O47: a status code stands for a decode result, and each error of DECODE has its exact cause and value. -/
theorem statusCodesAndTheirCauses : Obligations.StatusCodesAndTheirCauses := by
  intro b v buf b0 h0 o std badNmt badSdo
  obtain ⟨hframe, hlength, hnmt, hsdo⟩ := portsOf_status_iff v (decodeBuffer b buf)
  have hnmtCause {c : Byte} : decodeBuffer b buf = .error (.unknownNmtCommand c) ↔ c = b0 ∧ badNmt :=
    decodeBuffer_eq_unknownNmtCommand_iff h0
  have hsdoCause {c : Byte} : decodeBuffer b buf = .error (.unknownSdoCommand c) ↔ c = b0 &&& 0xE0 ∧ badSdo :=
    decodeBuffer_eq_unknownSdoCommand_iff h0
  refine ⟨hframe, fun h => ?frame, hlength.trans decodeBuffer_eq_invalidFrameLength_iff, fun h => ?length,
    hnmt.trans (by simp only [hnmtCause, exists_eq_left]), fun h => ?nmt,
    hsdo.trans (by simp only [hsdoCause, exists_eq_left]), fun h => ?sdo, portsOf_decodeBuffer_status_not_mem b v buf⟩
  case frame =>
    obtain ⟨f, hf⟩ := hframe.1 h
    obtain ⟨-, hvalue⟩ := framePorts_status v f
    exact (congrArg OutPorts.errValue (portsOf_of_decodedTo v hf)).trans hvalue
  case length => exact portsOf_errValue_of_eq_error v (hlength.1 h)
  case nmt =>
    obtain ⟨c, hc⟩ := hnmt.1 h
    obtain ⟨rfl, -⟩ := hnmtCause.1 hc
    exact portsOf_errValue_of_eq_error v hc
  case sdo =>
    obtain ⟨c, hc⟩ := hsdo.1 h
    obtain ⟨rfl, -⟩ := hsdoCause.1 hc
    exact portsOf_errValue_of_eq_error v hc

/-! ### A miss in the abort table -/

/-- The sub-frame of an SDO role is what SDO_DECODE answers in its direction (R173, R203). -/
theorem subFrameOf_of_sdo_role {b : Build} {role : FunctionCode} (h : role = .sdoRx ∨ role = .sdoTx) :
    ∃ dir, ∀ p, subFrameOf b role p = (sdoDecode b dir p).map (sdoSub dir) := by
  obtain rfl | rfl := h
  · exact ⟨.rx, fun _ => rfl⟩
  · exact ⟨.tx, fun _ => rfl⟩

/-- A frame with the sub-frame of a direction carries its fields (R40). -/
theorem sdoFieldsIn_of_subFrame_eq_sdoSub {f : CanOpenFrame} {dir : Direction} {x : SdoFields}
    (h : f.subFrame = sdoSub dir x) : sdoFieldsIn f = some x := by
  rw [sdoFieldsIn, h]
  cases dir <;> rfl

/-- A standard SDO frame whose command specifier has one tag in both directions decodes, to SDO fields with that tag (R183,
R203). -/
theorem decodedTo_of_sdoTagOf {b : Build} {buf : List Byte} {b0 : Byte} {tag : SdoTag} (hlen : buf.length = 16)
    (hstd : isStandard (identOf buf) = true) (hrole : roleOf b buf = .sdoRx ∨ roleOf b buf = .sdoTx)
    (h0 : FirstPayloadByte buf b0) (htag : ∀ dir, sdoTagOf dir (sdoCs b0) = some tag) :
    ∃ f x, decodedTo b buf f ∧ sdoFieldsIn f = some x ∧ x.tag = tag := by
  obtain ⟨raw, hparse, hid, hfirst⟩ := parse_identOf_firstPayloadByte hlen
  have hp0 : raw.payload.p0 = b0 := Option.some.inj (hfirst.symm.trans h0)
  have hclass : raw.identifier.getLsbD 31 = false := by simpa [isStandard_eq_not_getLsbD, hid] using hstd
  obtain ⟨dir, hsub⟩ := subFrameOf_of_sdo_role (b := b) hrole
  rw [roleOf, ← hid] at hsub
  have hfields := (hsub raw.payload).trans (congrArg _ (sdoDecode_eq_sdoFieldsOf (hp0 ▸ htag dir)))
  exact ⟨_, _, decodeBuffer_of_subFrameOf_ok hparse hclass hfields, sdoFieldsIn_of_subFrame_eq_sdoSub rfl, rfl⟩

/-- The abort code of a decoded SDO frame is read at offset 12 (R179). -/
theorem abortCode_of_decodedTo {b : Build} {buf : List Byte} {f : CanOpenFrame} {x : SdoFields} (hf : decodedTo b buf f)
    (hx : sdoFieldsIn f = some x) : x.abortCode = memRead buf 12 4 := by
  obtain ⟨hparse, -⟩ := parse_of_decodedTo hf
  obtain ⟨-, -, -, hcode⟩ := parseFrame_reads hparse
  obtain ⟨dir, hdec⟩ := sdoDecode_of_decodedTo hf hx
  obtain ⟨tag, -, rfl⟩ := sdoDecode_ok hdec
  exact hcode

/-- Settles O42: specifier 0x80 is an abort transfer in both directions; its entry is the lookup (O43), which misses, and an absent
entry reads 0 (O48). -/
theorem abortTableMissIsNoError : Obligations.AbortTableMissIsNoError := by
  intro b v buf b0 hlen hstd hrole h0 hcs hmiss
  have htag (dir : Direction) : sdoTagOf dir (sdoCs b0) = some .abortTransfer := by
    rw [sdoCs, csMask, hcs]
    cases dir <;> rfl
  obtain ⟨f, x, hf, hx, hxtag⟩ := decodedTo_of_sdoTagOf hlen hstd hrole h0 htag
  obtain ⟨dir, hdec⟩ := sdoDecode_of_decodedTo hf hx
  have hentry : x.abortEntry = none := by
    rw [onlyAbortTransferHasAnEntry b dir _ x hdec, if_pos hxtag, abortCode_of_decodedTo hf hx]
    exact abortLookup_none.2 hmiss
  obtain ⟨-, hports⟩ := absentValuesReadZero b v buf
  obtain ⟨hstatus, -, -, -, -, -, hfields⟩ := hports f hf
  obtain ⟨-, hnoEntry⟩ := hfields x hx
  obtain ⟨hnoHit, -⟩ := hnoEntry hentry
  exact ⟨f, x, hf, hx, hxtag, hentry, hstatus, hnoHit⟩

end Sys2Proof
end

section
/-! The decoder and the encoder (spec/30_encoding.md): the field each format reads, the fields each row is written to, and the
statements that the two are inverse to each other, that every field value has its row, and that PARSE agrees. -/

namespace Sys2Proof

open Sys2Proof.Claims Sys2Proof.Machine

/-! ### The words and payloads a field holds -/

/-- The field of a word is read as that word (R63). -/
@[simp] theorem word32Of_leBytes (v : BitVec 32) (f : BitVec 32 → Except DecodeReject Instr) :
    word32Of (leBytes 4 v) f = f v := by
  rw [word32Of_of_length rfl, leAssemble_leBytes_four]

/-- A field that is read as a word holds that word's bytes (R63). -/
theorem word32Of_ok {bytes : List Byte} {f : BitVec 32 → Except DecodeReject Instr} {i : Instr}
    (h : word32Of bytes f = .ok i) : ∃ v : BitVec 32, bytes = leBytes 4 v ∧ f v = .ok i := by
  unfold word32Of at h
  split at h
  · exact ⟨_, (leBytes_leAssemble_four _ _ _ _).symm, h⟩
  · cases h

/-- A field that is read as a payload holds that payload's bytes (R62). -/
theorem payloadOf_ok {bytes : List Byte} {f : Payload → Except DecodeReject Instr} {i : Instr}
    (h : payloadOf bytes f = .ok i) : ∃ p : Payload, bytes = p.bytes ∧ f p = .ok i := by
  unfold payloadOf at h
  split at h
  · exact ⟨_, rfl, h⟩
  · cases h

/-- A row found in a table of a format is listed there under its key. -/
theorem mem_of_rowOr_map_ok {α β : Type} [DecidableEq α] {t : List (α × (β → Instr))} {k : α} {x : β} {f : Format} {i : Instr}
    (h : rowOr f ((tableFind t k).map fun row => row x) = .ok i) : ∃ row, (k, row) ∈ t ∧ i = row x := by
  cases hfind : tableFind t k with
  | none => simp [hfind, rowOr] at h
  | some row =>
    rw [hfind] at h
    exact ⟨row, tableFind_mem hfind, (Except.ok.inj h).symm⟩

/-- A row listed once under its key is found there. -/
theorem rowOr_map_of_mem {α β : Type} [DecidableEq α] {t : List (α × (β → Instr))} {k : α} {row : β → Instr} (x : β)
    (f : Format) (hn : (t.map Prod.fst).Nodup) (h : (k, row) ∈ t) :
    rowOr f ((tableFind t k).map fun row => row x) = .ok (row x) := by
  rw [tableFind_of_mem hn h, Option.map_some, rowOr]

/-! ### The identifier words -/

/-- The flags and the address of an ID32 word are read back (R81). -/
theorem idWord_fields (eff rtr err : Bool) (addr : BitVec 29) :
    isExtended (idWord eff rtr err addr) = eff ∧ isRemoteRequest (idWord eff rtr err addr) = rtr ∧
      isErrorFrame (idWord eff rtr err addr) = err ∧ addr29 (idWord eff rtr err addr) = addr := by
  rw [isExtended_eq_getLsbD, isRemoteRequest_eq_getLsbD, isErrorFrame_eq_getLsbD, addr29, idWord,
    BitVec.extractLsb'_append_eq_right]
  simp only [BitVec.getLsbD_append]
  simp

/-- An identifier is its flags over its address (R81). -/
theorem idWord_of_fields (id : Ident) :
    idWord (isExtended id) (isRemoteRequest id) (isErrorFrame id) (addr29 id) = id := by
  rw [isExtended_eq_getLsbD, isRemoteRequest_eq_getLsbD, isErrorFrame_eq_getLsbD]
  apply BitVec.eq_of_getLsbD_eq
  intro i hi
  simp only [idWord, addr29, BitVec.getLsbD_append, BitVec.getLsbD_extractLsb', BitVec.getLsbD_ofBool]
  interval_cases i <;> simp

/-- The fields of an ID32_STD word are read back (R83). -/
theorem fcWord_fields (raw : BitVec 4) (node : BitVec 7) :
    isStandard (fcWord raw node) = true ∧ fcRaw (fcWord raw node) = raw ∧ canopenNodeId (fcWord raw node) = node := by
  rw [isStandard_eq_not_getLsbD, fcRaw_eq_extractLsb', canopenNodeId_eq_extractLsb', fcWord,
    BitVec.extractLsb'_append_eq_right, BitVec.extractLsb'_append_eq_of_le (by decide), Nat.sub_self,
    BitVec.extractLsb'_append_eq_right]
  simp only [BitVec.getLsbD_append]
  simp

/-- The fields that ID32_STD reads are the low 11 bits of an identifier (R83). -/
theorem fcWord_of_fields (id : Ident) : fcWord (fcRaw id) (canopenNodeId id) = id &&& 0x7FF := by
  rw [fcRaw_eq_extractLsb', canopenNodeId_eq_extractLsb']
  apply BitVec.eq_of_getLsbD_eq
  intro i hi
  simp only [fcWord, BitVec.getLsbD_append, BitVec.getLsbD_extractLsb', BitVec.getLsbD_and]
  interval_cases i <;> simp

/-! ### FRAME_LEN -/

/-- A buffer of another length than 16 matches INVALID_FRAME_LENGTH (R110). -/
theorem decode_frameLen_of_length_ne {bytes : List Byte} (h : bytes.length ≠ 16) :
    decode .frameLen bytes = .ok (.invalidFrameLength bytes.length) := by
  have hrow : decodeFrameLen bytes = .invalidFrameLength bytes.length := by
    unfold decodeFrameLen
    split
    · exact absurd rfl h
    · rfl
  rw [decode, hrow]

/-- Settles O7: a 16-byte buffer has its parsed fields on both sides, any other fails on both. -/
theorem frameRowsAgreeWithParse : Obligations.FrameRowsAgreeWithParse := by
  intro buf
  by_cases hlen : buf.length = 16
  · obtain ⟨⟨id, dlc, p⟩, hparse, hrow, -⟩ := parse_of_length_sixteen hlen
    rw [hparse, hrow]
    refine ⟨fun raw => ?_, by simp⟩
    obtain ⟨id', dlc', p'⟩ := raw
    simp
  · rw [decode_frameLen_of_length_ne hlen]
    simp [parseFrame, hlen]

/-! ### The rows of each format: where they belong and how they are written -/

/-- The class row of an identifier belongs to ID32 and is written back to the identifier (R81, R121, R122). -/
theorem decodeClass_spec (id : Ident) : (decodeClass id).wf = true ∧ (decodeClass id).format = .id32Class ∧
    encode (decodeClass id) = leBytes 4 id := by
  have hid := idWord_of_fields id
  cases hext : isExtended id <;> rw [hext] at hid <;>
    simp [decodeClass, hext, Instr.wf, Instr.format, encode, hid]

/-- The function-code rows: each is written to its raw value and node id (R83). -/
theorem fcRows_spec : ∀ e ∈ fcRows, ∀ node, (e.2 node).wf = true ∧ (e.2 node).format = .id32Std ∧
    encode (e.2 node) = leBytes 4 (fcWord e.1 node) := by
  simp only [fcRows, List.forall_mem_cons, List.not_mem_nil, false_imp_iff, implies_true, and_true]
  and_intros <;> exact fun _ => ⟨rfl, rfl, rfl⟩

/-- The NMT command rows: each is written to its command byte and target (R85). -/
theorem nmtRows_spec : ∀ e ∈ nmtRows, ∀ target, (e.2 target).wf = true ∧ (e.2 target).format = .nmtB0 ∧
    encode (e.2 target) = [e.1, target] := by
  simp only [nmtRows, List.forall_mem_cons, List.not_mem_nil, false_imp_iff, implies_true, and_true]
  and_intros <;> exact fun _ => ⟨rfl, rfl, rfl⟩

/-- The abort-code rows: each is written to its code (R89). -/
theorem abortRows_spec : ∀ e ∈ abortRows, e.2.wf = true ∧ e.2.format = .abort32 ∧ encode e.2 = leBytes 4 e.1 := by
  simp only [abortRows, abortRowsA, abortRowsB, abortRowsC, List.cons_append, List.nil_append, List.forall_mem_cons,
    List.not_mem_nil, false_imp_iff, implies_true, and_true]
  and_intros <;> rfl

/-- The SDO rows of a direction belong to its format (R171). -/
theorem sdoRowsOf_format (dir : Direction) :
    ∀ e ∈ sdoRowsOf dir, ∀ o, (e.2 o).wf = true ∧ (e.2 o).format = dir.format := by
  cases dir <;>
    simp only [sdoRowsOf, sdoRxRows, sdoTxRows, List.forall_mem_cons, List.not_mem_nil, false_imp_iff, implies_true,
      and_true] <;>
    and_intros <;> exact fun _ => ⟨rfl, rfl⟩

/-- An SDO row is written to its command specifier and its operands; an illegal one, which has no operands, to zeros (log entry
11). -/
theorem encode_sdoRowsOf (dir : Direction) : ∀ e ∈ sdoRowsOf dir, ∀ o,
    encode (e.2 o) = sdoBytes e.1 o ∨
      ((∃ l ∈ illegalSdoRows, e.2 o = l.2) ∧ encode (e.2 o) = sdoBytes e.1 SdoOperands.zero ∧
        e.2 o = e.2 SdoOperands.zero) := by
  cases dir <;>
    simp only [sdoRowsOf, sdoRxRows, sdoTxRows, List.forall_mem_cons, List.not_mem_nil, false_imp_iff, implies_true,
      and_true] <;>
    and_intros <;> intro o <;> simp [encode, illegalSdoRows]

/-- A byte outside the NMT table is one that no row lists (R95). -/
theorem badNmtCommand_iff (c : Byte) : badNmtCommand c = true ↔ ∀ e ∈ nmtRows, e.1 ≠ c := by
  simp [badNmtCommand, nmtRows, and_assoc, @eq_comm _ c]

/-- The NMT row of a command byte: a listed row, or the illegal one (R95, R160). -/
theorem decodeNmt_cases (c target : Byte) :
    (∃ row, (c, row) ∈ nmtRows ∧ decodeNmt c target = row target) ∨
      (badNmtCommand c = true ∧ decodeNmt c target = .nmtIllegal c) := by
  unfold decodeNmt
  split
  next row hrow => exact .inl ⟨row, tableFind_mem hrow, rfl⟩
  next hnone => exact .inr ⟨(badNmtCommand_iff c).2 (tableFind_eq_none.1 hnone), rfl⟩

/-! ### The rows the decoder can answer in a format -/

section
variable {bytes : List Byte} {i : Instr}

/-- ID32, the class: the row of the word read. -/
theorem decode_id32Class_ok (h : decode .id32Class bytes = .ok i) : ∃ id, bytes = leBytes 4 id ∧ i = decodeClass id := by
  rw [decode] at h
  obtain ⟨id, hbytes, hrow⟩ := word32Of_ok h
  exact ⟨id, hbytes, (Except.ok.inj hrow).symm⟩

/-- ID32, the RTR test: the row of a word whose flag is set. -/
theorem decode_id32Rtr_ok (h : decode .id32Rtr bytes = .ok i) : ∃ id, bytes = leBytes 4 id ∧ isRemoteRequest id = true ∧
    i = .isRemoteRequest (isExtended id) (isErrorFrame id) (addr29 id) := by
  rw [decode] at h
  obtain ⟨id, hbytes, hrow⟩ := word32Of_ok h
  split at hrow
  next hset => exact ⟨id, hbytes, hset, (Except.ok.inj hrow).symm⟩
  next => cases hrow

/-- ID32, the ERR test: the row of a word whose flag is set. -/
theorem decode_id32Err_ok (h : decode .id32Err bytes = .ok i) : ∃ id, bytes = leBytes 4 id ∧ isErrorFrame id = true ∧
    i = .isErrorFrame (isExtended id) (isRemoteRequest id) (addr29 id) := by
  rw [decode] at h
  obtain ⟨id, hbytes, hrow⟩ := word32Of_ok h
  split at hrow
  next hset => exact ⟨id, hbytes, hset, (Except.ok.inj hrow).symm⟩
  next => cases hrow

/-- ID32_STD: the listed row of the raw value, with the node id. -/
theorem decode_id32Std_ok (h : decode .id32Std bytes = .ok i) :
    ∃ id row, bytes = leBytes 4 id ∧ (fcRaw id, row) ∈ fcRows ∧ i = row (canopenNodeId id) := by
  rw [decode] at h
  obtain ⟨id, hbytes, hrow⟩ := word32Of_ok h
  split at hrow
  next =>
    obtain ⟨row, hmem, hi⟩ := mem_of_rowOr_map_ok hrow
    exact ⟨id, row, hbytes, hmem, hi⟩
  next => cases hrow

/-- NMT_B0: the row of the two bytes. -/
theorem decode_nmtB0_ok (h : decode .nmtB0 bytes = .ok i) : ∃ b0 b1, bytes = [b0, b1] ∧ i = decodeNmt b0 b1 := by
  simp only [decode] at h
  split at h
  next => exact ⟨_, _, rfl, (Except.ok.inj h).symm⟩
  next => cases h

/-- An SDO format: the listed row of the command specifier, with the operands of the payload. -/
theorem decode_sdo_ok {dir : Direction} (h : decode dir.format bytes = .ok i) : ∃ p row, bytes = Payload.bytes p ∧
    (sdoCs p.p0, row) ∈ sdoRowsOf dir ∧ i = row (SdoOperands.ofPayload p) := by
  obtain ⟨p, rfl⟩ : ∃ p, bytes = Payload.bytes p := by
    cases dir <;>
    · rw [Direction.format, decode] at h
      obtain ⟨p, hbytes, -⟩ := payloadOf_ok h
      exact ⟨p, hbytes⟩
  rw [decode_sdo] at h
  obtain ⟨row, hmem, hi⟩ := mem_of_rowOr_map_ok h
  exact ⟨p, row, rfl, hmem, hi⟩

/-- ABORT32: the listed row of the code. -/
theorem decode_abort32_ok (h : decode .abort32 bytes = .ok i) : ∃ code, bytes = leBytes 4 code ∧ (code, i) ∈ abortRows := by
  rw [decode] at h
  obtain ⟨code, hbytes, hrow⟩ := word32Of_ok h
  refine ⟨code, hbytes, tableFind_mem ?_⟩
  cases hfind : tableFind abortRows code with
  | none => simp [hfind, rowOr] at hrow
  | some j =>
    rw [hfind] at hrow
    rw [Except.ok.inj hrow]

end

/-! ### The payload of an SDO row -/

/-- The payload an SDO row is written to: its command specifier over its low bits, then its other operands (R86, R87). -/
def sdoPayload (cs : Byte) (o : SdoOperands) : Payload :=
  ⟨cs ||| o.low.setWidth 8, o.index.extractLsb' 0 8, o.index.extractLsb' 8 8, o.subIndex, o.d0, o.d1, o.d2, o.d3⟩

/-- The bytes an SDO row is written to are those of its payload. -/
theorem sdoBytes_eq_bytes (cs : Byte) (o : SdoOperands) : sdoBytes cs o = (sdoPayload cs o).bytes := rfl

/-- The index operand is payload bytes 1 and 2 (R176). -/
theorem sdoIndex_eq_append (p : Payload) : sdoIndex p = p.p2 ++ p.p1 := leAssemble_two p.p1 p.p2

/-- A 16-bit word is its two bytes. -/
theorem append_extractLsb'_bytes (v : BitVec 16) : v.extractLsb' 8 8 ++ v.extractLsb' 0 8 = v :=
  (BitVec.extractLsb'_append_extractLsb'_eq_extractLsb' rfl).trans BitVec.extractLsb'_eq_self

/-- The operands of an SDO row are read back from its payload, when its command specifier leaves the low bits clear. -/
theorem ofPayload_sdoPayload {cs : Byte} (h : cs &&& 0x1F = 0) (o : SdoOperands) :
    SdoOperands.ofPayload (sdoPayload cs o) = o := by
  obtain ⟨low, index, subIndex, d0, d1, d2, d3⟩ := o
  rw [SdoOperands.ofPayload, sdoIndex_eq_append]
  simp only [sdoPayload, SdoOperands.mk.injEq, and_true]
  exact ⟨low_of_or_low cs low h, append_extractLsb'_bytes index⟩

/-- A payload is written back from its command specifier and its operands. -/
theorem sdoBytes_ofPayload (p : Payload) : sdoBytes (sdoCs p.p0) (SdoOperands.ofPayload p) = p.bytes := by
  simp only [sdoBytes, SdoOperands.ofPayload, sdoIndex_eq_append, sdoCs_or_own_low, Payload.bytes,
    BitVec.extractLsb'_append_eq_right, BitVec.extractLsb'_append_eq_of_le (Nat.le_refl 8)]
  simp

/-- The command specifiers of a direction are distinct and leave bits 4:0 clear (R171). -/
theorem sdoRowsOf_keys (dir : Direction) :
    ((sdoRowsOf dir).map Prod.fst).Nodup ∧ ∀ e ∈ sdoRowsOf dir, e.1 &&& 0x1F = 0 := by
  cases dir <;> decide

/-- An SDO row is read back from its command specifier and its operands. -/
theorem decode_sdoBytes (dir : Direction) {e : Byte × (SdoOperands → Instr)} (he : e ∈ sdoRowsOf dir) (o : SdoOperands) :
    decode dir.format (sdoBytes e.1 o) = .ok (e.2 o) := by
  obtain ⟨hnodup, hclear⟩ := sdoRowsOf_keys dir
  have hcs : sdoCs (sdoPayload e.1 o).p0 = e.1 := sdoCs_or_low _ _ (hclear e he)
  rw [sdoBytes_eq_bytes, decode_sdo, hcs, ofPayload_sdoPayload (hclear e he)]
  exact rowOr_map_of_mem o _ hnodup he

/-! ### Decoding what the encoder writes -/

section
variable {i : Instr}

/-- The rows of FRAME_LEN are read back. -/
theorem decode_encode_frameLen (hf : i.format = .frameLen) (hwf : i.wf = true) : decode .frameLen (encode i) = .ok i := by
  cases i with
  | parse id dlc p => exact congrArg (fun v => Except.ok (Instr.parse v dlc p)) (leAssemble_leBytes_four id)
  | invalidFrameLength len =>
    have hlen : len ≠ 16 := by simpa [Instr.wf, badLength] using hwf
    rw [encode, decode_frameLen_of_length_ne (by simpa using hlen), List.length_replicate]
  | _ => cases hf

/-- The class rows are read back. -/
theorem decode_encode_id32Class (hf : i.format = .id32Class) : decode .id32Class (encode i) = .ok i := by
  cases i with
  | isExtended rtr err addr => simp [encode, decode, decodeClass, idWord_fields]
  | isStandard rtr err addr => simp [encode, decode, decodeClass, idWord_fields]
  | _ => cases hf

/-- The RTR row is read back. -/
theorem decode_encode_id32Rtr (hf : i.format = .id32Rtr) : decode .id32Rtr (encode i) = .ok i := by
  cases i with
  | isRemoteRequest eff err addr => simp [encode, decode, idWord_fields]
  | _ => cases hf

/-- The ERR row is read back. -/
theorem decode_encode_id32Err (hf : i.format = .id32Err) : decode .id32Err (encode i) = .ok i := by
  cases i with
  | isErrorFrame eff rtr addr => simp [encode, decode, idWord_fields]
  | _ => cases hf

/-- Every row of ID32_STD is listed by its raw value. -/
theorem exists_mem_fcRows (hf : i.format = .id32Std) : ∃ e ∈ fcRows, ∃ node, i = e.2 node := by
  cases i <;> simp [Instr.format] at hf <;> simp [fcRows]

/-- The function-code rows are read back. -/
theorem decode_encode_id32Std (hf : i.format = .id32Std) : decode .id32Std (encode i) = .ok i := by
  obtain ⟨e, he, node, rfl⟩ := exists_mem_fcRows hf
  obtain ⟨-, -, hencode⟩ := fcRows_spec e he node
  obtain ⟨hstd, hraw, hnode⟩ := fcWord_fields e.1 node
  rw [hencode, decode, word32Of_leBytes, if_pos hstd, hraw, hnode]
  exact rowOr_map_of_mem node _ (by decide) he

/-- Every row of NMT_B0 is listed by its command byte, or the illegal one. -/
theorem exists_mem_nmtRows (hf : i.format = .nmtB0) : (∃ e ∈ nmtRows, ∃ target, i = e.2 target) ∨ ∃ c, i = .nmtIllegal c := by
  cases i <;> simp [Instr.format] at hf <;> simp [nmtRows]

/-- The NMT rows are read back. -/
theorem decode_encode_nmtB0 (hf : i.format = .nmtB0) (hwf : i.wf = true) : decode .nmtB0 (encode i) = .ok i := by
  obtain ⟨e, he, target, rfl⟩ | ⟨c, rfl⟩ := exists_mem_nmtRows hf
  · obtain ⟨-, -, hencode⟩ := nmtRows_spec e he target
    rw [hencode, decode, decodeNmt, tableFind_of_mem (by decide) he]
  · rw [encode, decode, decodeNmt, tableFind_eq_none.2 ((badNmtCommand_iff c).1 hwf)]

/-- Every row of an SDO format is listed by its command specifier. -/
theorem exists_mem_sdoRowsOf {dir : Direction} (hf : i.format = dir.format) : ∃ e ∈ sdoRowsOf dir, ∃ o, i = e.2 o := by
  cases dir <;> cases i <;> simp [Instr.format, Direction.format] at hf <;> simp [sdoRowsOf, sdoRxRows, sdoTxRows]

/-- The SDO rows are read back, in either direction. -/
theorem decode_encode_sdo {dir : Direction} (hf : i.format = dir.format) : decode dir.format (encode i) = .ok i := by
  obtain ⟨e, he, o, rfl⟩ := exists_mem_sdoRowsOf hf
  obtain hencode | ⟨-, hencode, hzero⟩ := encode_sdoRowsOf dir e he o
  · rw [hencode, decode_sdoBytes dir he]
  · rw [hencode, decode_sdoBytes dir he, hzero]

/-- Every row of ABORT32 is listed by its code. -/
theorem exists_mem_abortRows (hf : i.format = .abort32) : ∃ code, (code, i) ∈ abortRows := by
  cases i <;> simp [Instr.format] at hf <;> simp [abortRows, abortRowsA, abortRowsB, abortRowsC]

/-- No abort code is listed twice (R185). -/
theorem abortRows_nodup : (abortRows.map Prod.fst).Nodup := by decide

/-- The row of a listed abort code. -/
theorem decode_abort32_of_mem {code : BitVec 32} (h : (code, i) ∈ abortRows) : decode .abort32 (leBytes 4 code) = .ok i := by
  rw [decode, word32Of_leBytes, tableFind_of_mem abortRows_nodup h, rowOr]

/-- The abort-code rows are read back. -/
theorem decode_encode_abort32 (hf : i.format = .abort32) : decode .abort32 (encode i) = .ok i := by
  obtain ⟨code, hmem⟩ := exists_mem_abortRows hf
  obtain ⟨-, -, hencode⟩ := abortRows_spec _ hmem
  rw [hencode, decode_abort32_of_mem hmem]

end

/-- Settles O1: format by format, the fields a row is written to are those its format reads. -/
theorem decodeOfEncodeIsTheRow : Obligations.DecodeOfEncodeIsTheRow := by
  intro i hwf
  cases hf : i.format with
  | frameLen => exact decode_encode_frameLen hf hwf
  | id32Class => exact decode_encode_id32Class hf
  | id32Rtr => exact decode_encode_id32Rtr hf
  | id32Err => exact decode_encode_id32Err hf
  | id32Std => exact decode_encode_id32Std hf
  | nmtB0 => exact decode_encode_nmtB0 hf hwf
  | sdoB0Rx => exact decode_encode_sdo (dir := .rx) hf
  | sdoB0Tx => exact decode_encode_sdo (dir := .tx) hf
  | abort32 => exact decode_encode_abort32 hf

/-! ### What the decoder answers -/

/-- Settles O2: format by format, an answer is a row of the format's own table, or one whose condition was tested. -/
theorem decodedRowIsWellFormedInItsFormat : Obligations.DecodedRowIsWellFormedInItsFormat := by
  have hsdo {dir : Direction} {bytes : List Byte} {i : Instr} (h : decode dir.format bytes = .ok i) :
      i.wf = true ∧ i.format = dir.format := by
    obtain ⟨p, row, -, hmem, rfl⟩ := decode_sdo_ok h
    exact sdoRowsOf_format dir _ hmem _
  intro f bytes i h
  cases f with
  | frameLen =>
    by_cases hlen : bytes.length = 16
    · obtain ⟨raw, -, hrow, -⟩ := parse_of_length_sixteen hlen
      rw [hrow] at h
      cases h
      exact ⟨rfl, rfl⟩
    · rw [decode_frameLen_of_length_ne hlen] at h
      cases h
      exact ⟨by simpa [Instr.wf, badLength] using hlen, rfl⟩
  | id32Class =>
    obtain ⟨id, -, rfl⟩ := decode_id32Class_ok h
    obtain ⟨hwf, hformat, -⟩ := decodeClass_spec id
    exact ⟨hwf, hformat⟩
  | id32Rtr =>
    obtain ⟨id, -, -, rfl⟩ := decode_id32Rtr_ok h
    exact ⟨rfl, rfl⟩
  | id32Err =>
    obtain ⟨id, -, -, rfl⟩ := decode_id32Err_ok h
    exact ⟨rfl, rfl⟩
  | id32Std =>
    obtain ⟨id, row, -, hmem, rfl⟩ := decode_id32Std_ok h
    obtain ⟨hwf, hformat, -⟩ := fcRows_spec _ hmem (canopenNodeId id)
    exact ⟨hwf, hformat⟩
  | nmtB0 =>
    obtain ⟨b0, b1, -, rfl⟩ := decode_nmtB0_ok h
    obtain ⟨row, hmem, hrow⟩ | ⟨hbad, hrow⟩ := decodeNmt_cases b0 b1 <;> rw [hrow]
    · obtain ⟨hwf, hformat, -⟩ := nmtRows_spec _ hmem b1
      exact ⟨hwf, hformat⟩
    · exact ⟨hbad, rfl⟩
  | sdoB0Rx => exact hsdo (dir := .rx) h
  | sdoB0Tx => exact hsdo (dir := .tx) h
  | abort32 =>
    obtain ⟨code, -, hmem⟩ := decode_abort32_ok h
    obtain ⟨hwf, hformat, -⟩ := abortRows_spec _ hmem
    exact ⟨hwf, hformat⟩

/-- A 32-bit field whose row reads every bit is written back whole. -/
theorem encode_of_decode_word {f : Format} (hf : f ∈ [Format.id32Class, .id32Rtr, .id32Err, .abort32]) {bytes : List Byte}
    {i : Instr} (h : decode f bytes = .ok i) : encode i = bytes := by
  cases f with
  | id32Class =>
    obtain ⟨id, rfl, rfl⟩ := decode_id32Class_ok h
    obtain ⟨-, -, hencode⟩ := decodeClass_spec id
    exact hencode
  | id32Rtr =>
    obtain ⟨id, rfl, hset, rfl⟩ := decode_id32Rtr_ok h
    rw [encode, ← hset, idWord_of_fields]
  | id32Err =>
    obtain ⟨id, rfl, hset, rfl⟩ := decode_id32Err_ok h
    rw [encode, ← hset, idWord_of_fields]
  | abort32 =>
    obtain ⟨code, rfl, hmem⟩ := decode_abort32_ok h
    obtain ⟨-, -, hencode⟩ := abortRows_spec _ hmem
    exact hencode
  | _ => simp at hf

/-- A function-code field is written back in its low 11 bits (log entry 11). -/
theorem encode_of_decode_id32Std {bytes : List Byte} {i : Instr} (h : decode .id32Std bytes = .ok i) :
    encode i = leBytes 4 (leAssemble 32 bytes &&& 0x7FF) := by
  obtain ⟨id, row, rfl, hmem, rfl⟩ := decode_id32Std_ok h
  obtain ⟨-, -, hencode⟩ := fcRows_spec _ hmem (canopenNodeId id)
  rw [hencode, fcWord_of_fields, leAssemble_leBytes_four]

/-- A legal NMT field is written back whole. -/
theorem encode_of_decode_nmtB0 {b0 b1 : Byte} {i : Instr} (h : decode .nmtB0 [b0, b1] = .ok i) (hlegal : i ≠ .nmtIllegal b0) :
    encode i = [b0, b1] := by
  obtain ⟨row, hmem, hrow⟩ | ⟨-, hrow⟩ := decodeNmt_cases b0 b1
  · obtain ⟨-, -, hencode⟩ := nmtRows_spec _ hmem b1
    rw [← Except.ok.inj h, hrow, hencode]
  · exact absurd ((Except.ok.inj h).symm.trans hrow) hlegal

/-- A legal SDO field is written back whole. -/
theorem encode_of_decode_sdo {dir : Direction} {bytes : List Byte} {i : Instr} (h : decode dir.format bytes = .ok i)
    (hlegal : ∀ e ∈ illegalSdoRows, i ≠ e.2) : encode i = bytes := by
  obtain ⟨p, row, rfl, hmem, rfl⟩ := decode_sdo_ok h
  obtain hencode | ⟨⟨l, hl, hrow⟩, -⟩ := encode_sdoRowsOf dir _ hmem (SdoOperands.ofPayload p)
  · rw [hencode, sdoBytes_ofPayload]
  · exact absurd hrow (hlegal l hl)

/-- A frame is written back but for its padding (R93). -/
theorem encode_of_decode_frameLen {bytes : List Byte} {i : Instr} (hlen : bytes.length = 16)
    (h : decode .frameLen bytes = .ok i) : AgreeOff [5, 6, 7] (encode i) bytes := by
  obtain ⟨x0, x1, x2, x3, x4, x5, x6, x7, x8, x9, x10, x11, x12, x13, x14, x15, rfl⟩ := exists_of_length_sixteen hlen
  obtain rfl : Instr.parse (leAssemble 32 [x0, x1, x2, x3]) x4 ⟨x8, x9, x10, x11, x12, x13, x14, x15⟩ = i := Except.ok.inj h
  rw [encode, leBytes_leAssemble_four]
  refine ⟨rfl, fun k hk => ?_⟩
  match k with
  | 0 | 1 | 2 | 3 | 4 => rfl
  | 5 | 6 | 7 => simp at hk
  | k + 8 => rfl

/-- Settles O3: one lemma for each group of formats. -/
theorem encodeOfDecodeKeepsEveryReadBit : Obligations.EncodeOfDecodeKeepsEveryReadBit := by
  refine ⟨fun f hf _ _ h => encode_of_decode_word hf h, fun _ _ h => encode_of_decode_id32Std h,
    fun _ _ _ h => encode_of_decode_nmtB0 h, ?_, fun _ _ hlen h => encode_of_decode_frameLen hlen h⟩
  simp only [List.forall_mem_cons, List.not_mem_nil, false_imp_iff, implies_true, and_true]
  exact ⟨fun _ _ h => encode_of_decode_sdo (dir := .rx) h, fun _ _ h => encode_of_decode_sdo (dir := .tx) h⟩

/-- Settles O4: each word is decoded. -/
theorem sampleWordsDecodeToTheirRows : Obligations.SampleWordsDecodeToTheirRows := by
  unfold Obligations.SampleWordsDecodeToTheirRows
  decide

/-- The function-code rows of a node id, by raw value. -/
theorem functionRows_eq_map (node : BitVec 7) : functionRows node = fcRows.map fun e => (e.1, e.2 node) := rfl

/-- Every SDO payload has its row in each direction (R96). -/
theorem decode_sdo_total (dir : Direction) (p : Payload) : ∃ i, decode dir.format p.bytes = .ok i := by
  obtain ⟨row, hrow⟩ := Option.isSome_iff_exists.1 (sdoRowsOf_total dir p.p0)
  exact ⟨_, by rw [decode_sdo, hrow, Option.map_some, rowOr]⟩

/-- Every standard identifier has the function-code row of its raw value (R91 step 4). -/
theorem decode_id32Std_total {id : Ident} (hstd : isStandard id = true) :
    ∃ e ∈ functionRows (canopenNodeId id), e.1 = fcRaw id ∧ decode .id32Std (leBytes 4 id) = .ok e.2 := by
  obtain ⟨row, hrow⟩ := Option.isSome_iff_exists.1 (fcRows_total (fcRaw id))
  rw [functionRows_eq_map]
  refine ⟨_, List.mem_map_of_mem (tableFind_mem hrow), rfl, ?_⟩
  rw [decode, word32Of_leBytes, if_pos hstd, hrow, Option.map_some, rowOr]

/-- Settles O5: the tables of the SDO and function-code rows have every key, and the NMT and class rows have a fallback. -/
theorem everyFieldValueHasItsRow : Obligations.EveryFieldValueHasItsRow := by
  refine ⟨fun b0 b1 => ⟨decodeNmt b0 b1, rfl⟩, fun p => ⟨decode_sdo_total .rx p, decode_sdo_total .tx p⟩, fun id => ?_⟩
  rw [← canopenNodeId_eq_extractLsb', ← fcRaw_eq_extractLsb']
  exact ⟨⟨decodeClass id, by rw [decode, word32Of_leBytes]⟩, decode_id32Std_total⟩

end Sys2Proof
end

section
/-! The rows by themselves: what each row outside the SDO segments drives of its own operands, and that it leaves every other port
(R45, R46), from the operations it is made of. -/

namespace Sys2Proof.Machine

open Sys2Proof.Claims

/-! ### The slicer's rows -/

/-- The `payload` port carries byte k on bits 8k+7:8k (R45, R114). -/
theorem payload_bytes_eq_port (p : Payload) {k : Nat} (hk : k < 8) :
    p.bytes[k]? = some (p.port.extractLsb' (8 * k) 8) := by
  have hbyte : p.bytes[k]? = some p.bytes[k] := List.getElem?_eq_getElem hk
  rw [hbyte, Payload.port, leAssemble_extractLsb'_byte hbyte (by omega)]

/-- Settles O8: the row drives the RawFrame ports over ports that are all 0. -/
theorem parseRowDrivesTheRawFramePorts : Obligations.ParseRowDrivesTheRawFramePorts := by
  intro id dlc p s
  exact ⟨driveRaw ⟨id, dlc, p⟩ s, rfl, rfl, rfl, rfl, fun k => payload_bytes_eq_port p, rfl⟩

/-- A row that raises an error shows it and nothing of a frame (R46, R230, R231). -/
theorem raise_spec (e : DecodeError) (s : State) :
    OnlyOut s (raise e s) ∧ (raise e s).out = errorOut s.inp.inValid e.code e.value := ⟨rfl, rfl⟩

/-- Settles O9: the row raises InvalidFrameLength, whatever the length. -/
theorem invalidLengthRowRaises : Obligations.InvalidLengthRowRaises :=
  fun _ s => ⟨_, rfl, raise_spec .invalidFrameLength s⟩

/-! ### The identifier's rows -/

/-- The addresses of an ID32 word, by its class (R125 to R128). -/
theorem addresses_idWord (eff rtr err : Bool) (addr : BitVec 29) :
    nodeAddress (idWord eff rtr err addr) = (if eff then addr else (addr.setWidth 11).setWidth 29) ∧
      stdAddress (idWord eff rtr err addr) = addr.setWidth 11 ∧ extAddress (idWord eff rtr err addr) = addr ∧
      errBits (idWord eff rtr err addr) = addr := by
  obtain ⟨hclass, -, -, haddr⟩ := idWord_fields eff rtr err addr
  obtain ⟨hext, herr, hstd⟩ := addr29_fields (idWord eff rtr err addr)
  rw [haddr] at hext herr hstd
  exact ⟨by rw [nodeAddress, hclass, hext, hstd], hstd, hext, herr⟩

/-- A class row drives the class and address ports of its word, whichever its flags (R121, R122, R125 to R128). -/
theorem classPorts_driveClass (extended rtr err : Bool) (addr : BitVec 29) (s : State) :
    classPorts (driveClass extended addr s).out =
      (extended, !extended, nodeAddress (idWord extended rtr err addr), stdAddress (idWord extended rtr err addr),
        extAddress (idWord extended rtr err addr), errBits (idWord extended rtr err addr)) := by
  obtain ⟨hnode, hstd, hext, herr⟩ := addresses_idWord extended rtr err addr
  rw [hnode, hstd, hext, herr]
  rfl

/-- Settles O15: both rows drive the class ports; the extended one also clears what a standard frame's other rows drive. -/
theorem classRowsDriveTheIdentifierPorts : Obligations.ClassRowsDriveTheIdentifierPorts := by
  intro rtr err addr s
  exact ⟨⟨_, rfl, rfl, classPorts_driveClass true rtr err addr s, rfl, rfl, rfl, rfl, rfl, rfl, rfl⟩,
    ⟨_, rfl, rfl, classPorts_driveClass false rtr err addr s, rfl, rfl, rfl, rfl, rfl, rfl, rfl⟩⟩

/-- Settles O16: that is what the two rows do. -/
theorem flagRowsSetOnlyTheirFlag : Obligations.FlagRowsSetOnlyTheirFlag := fun _ _ _ _ => ⟨rfl, rfl⟩

/-! ### The function-code rows -/

/-- Each function-code row drives the role of its raw value (R141, R142). -/
theorem exec_functionRows (node : BitVec 7) (s : State) :
    ∀ e ∈ functionRows node, exec e.2 s = .next (driveRole e.1 node s) := by
  rw [functionRows_eq_map, List.forall_mem_map]
  exact fun e he => exec_fcRows e he node s

/-- The roles whose payload has a decoder of its own get no sub-frame from their row (R203). -/
theorem opaqueSub_structured (p : Payload) : ∀ role ∈ [FunctionCode.nmtMc, .sdoRx, .sdoTx], opaqueSub role p = none := by
  simp [opaqueSub]

/-- The PDO roles keep the payload opaque (R203, R206). -/
theorem opaqueSub_pdo (p : Payload) :
    ∀ role ∈ [FunctionCode.pdo1Tx, .pdo1Rx, .pdo2Tx, .pdo2Rx, .pdo3Tx, .pdo3Rx, .pdo4Tx, .pdo4Rx],
      opaqueSub role p = some (.pdoOpaque p) := by
  simp [opaqueSub]

/-- The roles without a structured payload (R203). -/
theorem opaqueSub_unstructured (p : Payload) :
    ∀ role ∈ [FunctionCode.syncEmcy, .timestamp, .nmtNodeGuard, .unknown], opaqueSub role p = some (.unknown p) := by
  simp [opaqueSub]

/-- A role whose payload has no decoder gets an opaque sub-frame, of kind 0 or 4 (R40, R203). -/
theorem opaqueSub_of_not_structured (p : Payload) {role : FunctionCode} (h : role ∉ [FunctionCode.nmtMc, .sdoRx, .sdoTx]) :
    ∃ sub, opaqueSub role p = some sub ∧ (sub.kind = 0 ∨ sub.kind = 4) := by
  cases role <;> simp [opaqueSub, SubFrame.kind] at h ⊢

/-- The ports a function-code row drives whatever its role. -/
theorem driveRole_functionPorts (raw : BitVec 4) (node : BitVec 7) (s : State) :
    functionPorts (driveRole raw node s).out =
      (true, raw, (resolve s.build.fcMap raw).tag, roleBits (some (resolve s.build.fcMap raw)), true, node) := by
  rw [driveRole_out]
  split <;> simp [functionPorts, OutPorts.putFunction]

/-- The ports a function-code row leaves alone whatever its role. -/
theorem driveRole_frame (raw : BitVec 4) (node : BitVec 7) (s : State) :
    rawPorts (driveRole raw node s).out = rawPorts s.out ∧ classPorts (driveRole raw node s).out = classPorts s.out ∧
      flagPorts (driveRole raw node s).out = flagPorts s.out := by
  rw [driveRole_out]
  split <;> simp [rawPorts, classPorts, flagPorts]

/-- A function-code row leaves the sub-frame ports alone where the role has no opaque sub-frame (R203). -/
theorem driveRole_subPorts_of_none {raw : BitVec 4} {s : State}
    (h : opaqueSub (resolve s.build.fcMap raw) (Payload.ofPort s.out.payload) = none) (node : BitVec 7) :
    (driveRole raw node s).out.subKind = s.out.subKind ∧ nmtPorts (driveRole raw node s).out = nmtPorts s.out ∧
      sdoPorts (driveRole raw node s).out = sdoPorts s.out ∧ abortPorts (driveRole raw node s).out = abortPorts s.out := by
  rw [driveRole_out, h]
  exact ⟨rfl, rfl, rfl, rfl⟩

/-- A function-code row shows the opaque sub-frame of its role (R203). -/
theorem driveRole_subKind_of_some {raw : BitVec 4} {s : State} {sub : SubFrame}
    (h : opaqueSub (resolve s.build.fcMap raw) (Payload.ofPort s.out.payload) = some sub) (node : BitVec 7) :
    (driveRole raw node s).out.subKind = sub.kind := by
  rw [driveRole_out, h]
  exact OutPorts.putSub_subKind _ sub

/-- Behind an opaque sub-frame every other sub-frame port is 0 (R46). -/
theorem driveRole_subPorts_of_opaque {raw : BitVec 4} {s : State} {sub : SubFrame}
    (h : opaqueSub (resolve s.build.fcMap raw) (Payload.ofPort s.out.payload) = some sub) (hkind : sub.kind = 0 ∨ sub.kind = 4)
    (node : BitVec 7) :
    nmtPorts (driveRole raw node s).out = nmtPorts OutPorts.zero ∧
      sdoPorts (driveRole raw node s).out = sdoPorts OutPorts.zero ∧
      abortPorts (driveRole raw node s).out = abortPorts OutPorts.zero := by
  have hne (k : BitVec 3) (h0 : k ≠ 0) (h4 : k ≠ 4) : sub.kind ≠ k := by
    rintro rfl
    exact hkind.elim h0 h4
  rw [driveRole_out, h]
  exact ⟨OutPorts.nmtPorts_putSub_of_kind_ne _ (hne 1 (by decide) (by decide)),
    OutPorts.sdoPorts_putSub_of_kind_ne _ (hne 2 (by decide) (by decide)) (hne 3 (by decide) (by decide))⟩

/-- Settles O21: the function-code ports show the role; the sub-frame ports are those of its opaque sub-frame, if it has one. -/
theorem functionRowsDriveRoleNodeAndSubFrame : Obligations.FunctionRowsDriveRoleNodeAndSubFrame := by
  intro node s e he
  refine ⟨_, exec_functionRows node s e he, rfl, ?_, driveRole_frame e.1 node s⟩
  have hports := driveRole_functionPorts e.1 node s
  simp only [functionPorts, Prod.mk.injEq] at hports
  obtain ⟨hvalid, hraw, htag, hrole, hnodeValid, hnode⟩ := hports
  refine ⟨hvalid, hraw, htag, fun k _ => by rw [hrole, roleBits_some_getLsbD], hnodeValid, hnode,
    fun hpdo => driveRole_subKind_of_some (opaqueSub_pdo _ _ hpdo) node,
    fun hplain => driveRole_subKind_of_some (opaqueSub_unstructured _ _ hplain) node, ?_⟩
  split
  next hstructured => exact driveRole_subPorts_of_none (opaqueSub_structured _ _ hstructured) node
  next hopaque =>
    obtain ⟨sub, hsub, hkind⟩ := opaqueSub_of_not_structured (Payload.ofPort s.out.payload) hopaque
    exact driveRole_subPorts_of_opaque hsub hkind node

/-- The role each row is named for is the one the default map gives its raw value (log entry 3). -/
theorem namedRoles_eq_map (node : BitVec 7) :
    namedRoles node = (functionRows node).map fun e => (e.2, resolve fcMapDefault e.1) := rfl

/-- Settles O23: the rows drive the role of their raw value, which under the default map is the role of their name. -/
theorem defaultMapGivesEachRowTheRoleOfItsName : Obligations.DefaultMapGivesEachRowTheRoleOfItsName := by
  intro node s hmap
  rw [namedRoles_eq_map, List.forall_mem_map]
  intro e he
  have hports := driveRole_functionPorts e.1 node s
  simp only [functionPorts, Prod.mk.injEq, hmap] at hports
  obtain ⟨hvalid, -, htag, hrole, -⟩ := hports
  exact ⟨_, exec_functionRows node s e he, htag, hrole, hvalid⟩

/-! ### The NMT rows -/

/-- What an NMT command drives, and what it leaves alone (R160 to R162). -/
theorem driveNmt_ports (c : NmtCommand) (target : Byte) (s : State) :
    OnlyOut s (driveNmt c target s) ∧ (driveNmt c target s).out.subKind = 1 ∧
      nmtPorts (driveNmt c target s).out = (c.code, target) ∧
      sdoPorts (driveNmt c target s).out = sdoPorts OutPorts.zero ∧
      abortPorts (driveNmt c target s).out = abortPorts OutPorts.zero ∧
      rawPorts (driveNmt c target s).out = rawPorts s.out ∧ classPorts (driveNmt c target s).out = classPorts s.out ∧
      flagPorts (driveNmt c target s).out = flagPorts s.out ∧
      functionPorts (driveNmt c target s).out = functionPorts s.out :=
  ⟨rfl, rfl, rfl, rfl, rfl, rfl, rfl, rfl, rfl⟩

/-- Settles O28: each row is decoded from its command byte and drives its command. -/
theorem nmtRowsDriveCommandAndTarget : Obligations.NmtRowsDriveCommandAndTarget := by
  intro target s
  simp only [nmtCommandRows, List.forall_mem_cons, List.not_mem_nil, false_imp_iff, implies_true, and_true]
  exact ⟨⟨rfl, _, rfl, driveNmt_ports .start target s⟩, ⟨rfl, _, rfl, driveNmt_ports .stop target s⟩,
    ⟨rfl, _, rfl, driveNmt_ports .enterPreOperational target s⟩, ⟨rfl, _, rfl, driveNmt_ports .resetApplication target s⟩,
    ⟨rfl, _, rfl, driveNmt_ports .resetCommunication target s⟩⟩

/-- Settles O29: no row lists the byte, so the illegal row has it, which raises it. -/
theorem illegalNmtCommandRaisesWithTheByte : Obligations.IllegalNmtCommandRaisesWithTheByte := by
  intro c target s hc
  refine ⟨?_, _, rfl, raise_spec (.unknownNmtCommand c) s⟩
  have hnone : tableFind nmtRows c = none :=
    tableFind_eq_none.2 ((badNmtCommand_iff c).1 (by simpa [badNmtCommand, and_assoc] using hc))
  rw [decode, decodeNmt, hnone]

/-! ### The SDO rows -/

/-- Settles O33: each of the four rows raises its command specifier. -/
theorem illegalSdoCommandRaisesWithCs : Obligations.IllegalSdoCommandRaisesWithCs := by
  intro s
  simp only [illegalSdoRows, List.forall_mem_cons, List.not_mem_nil, false_imp_iff, implies_true, and_true]
  exact ⟨⟨_, rfl, raise_spec (.unknownSdoCommand 0xA0) s⟩, ⟨_, rfl, raise_spec (.unknownSdoCommand 0xE0) s⟩,
    ⟨_, rfl, raise_spec (.unknownSdoCommand 0xC0) s⟩, ⟨_, rfl, raise_spec (.unknownSdoCommand 0xE0) s⟩⟩

/-- Past the assembled bytes a word is 0 (R63). -/
theorem leAssemble_extractLsb'_past {w k : Nat} {bs : List Byte} (hv : bs[k]? = none) (hk : 8 * k + 8 ≤ w) :
    (leAssemble w bs).extractLsb' (8 * k) 8 = 0 := by
  apply BitVec.eq_of_getLsbD_eq
  intro j hj
  rw [BitVec.getLsbD_extractLsb', leAssemble_getLsbD _ _ _ (by omega), show (8 * k + j) / 8 = k by omega, hv]
  simp

/-- The `sdo_data` port: byte k of the data on its lane, and 0 on every lane past them (R178). -/
theorem sdoDataPort_lane (data : Option (List Byte)) {k : Nat} (hk : k < 4) :
    (sdoDataPort data).extractLsb' (8 * k) 8 = ((data.getD [])[k]?).getD 0 := by
  rw [sdoDataPort]
  cases hv : (data.getD [])[k]? with
  | none => exact leAssemble_extractLsb'_past hv (by omega)
  | some v => exact leAssemble_extractLsb'_byte hv (by omega)

section
variable (cs : Byte) (o : SdoOperands) {tag : SdoTag} (hcs : cs &&& 0x1F = 0) (hinit : tag.isInitiate = true)
include hcs hinit

/-- The fields of an initiate row: e and s are bits 1 and 0 of its low bits, the count is 4 - n (R174, R175). -/
theorem sdoFieldsOf_of_isInitiate (b : Build) :
    (sdoFieldsOf b cs tag o).expedited = o.low.getLsbD 1 ∧ (sdoFieldsOf b cs tag o).sizeIndicated = o.low.getLsbD 0 ∧
      (sdoFieldsOf b cs tag o).expeditedByteCount.toNat = 4 - (o.low.extractLsb' 2 2).toNat := by
  obtain ⟨he, hs, hn⟩ := flags_of_or_low cs o.low hcs
  rw [← he, ← hs, ← hn]
  simp only [sdoFieldsOf, sdoFlags_of_isInitiate hinit, sdoCount_toNat_of_isInitiate hinit, and_self]

/-- The data of an initiate row: the first 4 - n data bytes when it is expedited, none otherwise (R178). -/
theorem sdoFieldsOf_expeditedData (b : Build) : (sdoFieldsOf b cs tag o).expeditedData =
    if o.low.getLsbD 1 = true then some ([o.d0, o.d1, o.d2, o.d3].take (4 - (o.low.extractLsb' 2 2).toNat)) else none := by
  obtain ⟨he, -, hcount⟩ := sdoFieldsOf_of_isInitiate cs o hcs hinit b
  rw [← he, ← hcount]
  rfl

/-- A row whose tag is an initiate drives its expedited fields and the counted data bytes, and has no abort entry. -/
theorem exec_of_initiate_tag (dir : Direction) (s : State) {i : Instr} (hexec : exec i s = .next (driveSdo dir cs tag o s)) :
    ∃ t, exec i s = .next t ∧ SdoCommon (sdoKind dir) cs tag.code o s t ∧
      (let n := (o.low.extractLsb' 2 2).toNat
       t.out.sdoE = o.low.getLsbD 1 ∧ t.out.sdoS = o.low.getLsbD 0 ∧ t.out.sdoCount.toNat = 4 - n ∧
       t.out.sdoDataValid = o.low.getLsbD 1 ∧
       (∀ k d, [o.d0, o.d1, o.d2, o.d3][k]? = some d →
         t.out.sdoData.extractLsb' (8 * k) 8 = if o.low.getLsbD 1 = true ∧ k < 4 - n then d else 0)) ∧
      abortPorts t.out = (false, 0) := by
  obtain ⟨he, hs, hcount⟩ := sdoFieldsOf_of_isInitiate cs o hcs hinit s.build
  have hdata := sdoFieldsOf_expeditedData cs o hcs hinit s.build
  have hne : tag ≠ .abortTransfer := by rintro rfl; cases hinit
  refine ⟨_, hexec, sdoCommon_driveSdo dir cs o s tag, ?_, abortPorts_driveSdo_of_ne dir cs o s hne⟩
  rw [driveSdo_out_eq_putSdo]
  refine ⟨he, hs, ?_, ?_, fun k d hd => ?_⟩
  · show ((sdoFieldsOf s.build cs tag o).expeditedByteCount.setWidth 3).toNat = _
    rw [BitVec.toNat_setWidth, hcount, Nat.mod_eq_of_lt (by omega)]
  · show (sdoFieldsOf s.build cs tag o).expeditedData.isSome = _
    rw [hdata]
    cases o.low.getLsbD 1 <;> rfl
  · show (sdoDataPort (sdoFieldsOf s.build cs tag o).expeditedData).extractLsb' (8 * k) 8 = _
    have hk : k < 4 := (List.getElem?_eq_some_iff.1 hd).1
    rw [hdata, sdoDataPort_lane _ hk]
    cases o.low.getLsbD 1 with
    | false => simp
    | true =>
      simp only [if_true, Option.getD_some, List.getElem?_take, hd, true_and]
      split <;> rfl

end

/-- Settles O30: the tag of each of the four rows is an initiate. -/
theorem initiateRowsDriveTheExpeditedFields : Obligations.InitiateRowsDriveTheExpeditedFields := by
  intro o s
  simp only [initiateRows, List.forall_mem_cons, List.not_mem_nil, false_imp_iff, implies_true, and_true]
  exact ⟨exec_of_initiate_tag 0x20 o (tag := .downloadInitiate) (by decide) rfl .rx s rfl,
    exec_of_initiate_tag 0x40 o (tag := .uploadInitiate) (by decide) rfl .rx s rfl,
    exec_of_initiate_tag 0x60 o (tag := .downloadInitiate) (by decide) rfl .tx s rfl,
    exec_of_initiate_tag 0x40 o (tag := .uploadInitiate) (by decide) rfl .tx s rfl⟩

/-- An abort-transfer row shows the lookup of its code and no expedited field, in either direction (R180, R181). -/
theorem driveSdo_abortTransfer_ports (dir : Direction) (o : SdoOperands) {s : State} (ht : AbortTableOk s.build.abortTable) :
    SdoCommon (sdoKind dir) 0x80 4 o s (driveSdo dir 0x80 .abortTransfer o s) ∧
      NoExpedited (driveSdo dir 0x80 .abortTransfer o s).out ∧
      ShowsLookup s.build.abortTable (codeOf o) (driveSdo dir 0x80 .abortTransfer o s).out := by
  refine ⟨sdoCommon_driveSdo dir 0x80 o s .abortTransfer, noExpedited_driveSdo dir 0x80 o s rfl, ?_⟩
  have hcode : codeOf o = leAssemble 32 [o.d0, o.d1, o.d2, o.d3] := (leAssemble_four _ _ _ _).symm
  rw [hcode]
  apply showsLookup_of_ports ht <;> rw [driveSdo_out_eq_putSdo] <;> rfl

/-- Settles O32: the two rows are the abort transfers of their directions. -/
theorem abortTransferRowsLookUpTheCode : Obligations.AbortTransferRowsLookUpTheCode := by
  intro o s ht
  simp only [abortTransferRows, List.forall_mem_cons, List.not_mem_nil, false_imp_iff, implies_true, and_true]
  exact ⟨⟨_, rfl, driveSdo_abortTransfer_ports .rx o ht⟩, ⟨_, rfl, driveSdo_abortTransfer_ports .tx o ht⟩⟩

/-! ### The abort-code rows -/

/-- The rows of the 31 codes are those the decoder lists (R185). -/
theorem abortCodeRows_eq_abortRows : abortCodeRows = abortRows := rfl

/-- Settles O40: each listed code is decoded to its row, which looks it up. -/
theorem abortRowsLookUpTheirCode : Obligations.AbortRowsLookUpTheirCode := by
  intro s ht e he
  rw [abortCodeRows_eq_abortRows] at he
  exact ⟨decode_abort32_of_mem he, _, exec_abortRows e he s, rfl, showsLookup_of_ports ht rfl rfl⟩

/-- The default table lists the codes of the rows, in their order (R185, log entry 4). -/
theorem abortTableDefault_codes : abortTableDefault.map Prod.fst = abortCodeRows.map Prod.fst := rfl

/-- Settles O41: the default table is legal and has the row's code at the row's index, so the lookup (O40) hits there. -/
theorem defaultTableHitsEveryRowAtItsIndex : Obligations.DefaultTableHitsEveryRowAtItsIndex := by
  intro s htable k e hk
  have hlegal : AbortTableOk abortTableDefault := by decide
  obtain ⟨-, t, hexec, -, hhit, -⟩ := abortRowsLookUpTheirCode s (htable ▸ hlegal) e (List.mem_of_getElem? hk)
  have hcode : (s.build.abortTable[k]?).map Prod.fst = some e.1 := by
    rw [htable, ← List.getElem?_map, abortTableDefault_codes, List.getElem?_map, hk, Option.map_some]
  exact ⟨t, hexec, hhit k hcode⟩

end Sys2Proof.Machine
end

section
/-! Two standard frames that differ in bits no rule reads (R93): which ports see the difference, and the statements about the high
identifier bits and the unread payload bits. -/

namespace Sys2Proof

open Sys2Proof.Claims Sys2Proof.Machine

/-! ### Ports with some of the RawFrame and identifier ports blanked -/

/-- A blanking of ports that the function code and the sub-frame do not drive. -/
structure BlanksIdentifierOnly (blank : OutPorts → OutPorts) : Prop where
  putSub : ∀ o s, blank (o.putSub s) = (blank o).putSub s
  putFunction : ∀ o fc node, blank (o.putFunction fc node) = (blank o).putFunction fc node

/-- `id`, `ext_addr` and `err_bits` are driven by neither. -/
theorem blanksIdentifierOnly_blankHigh : BlanksIdentifierOnly blankHigh :=
  ⟨fun _ s => by cases s <;> rfl, fun _ _ _ => rfl⟩

/-- `payload` is driven by neither. -/
theorem blanksIdentifierOnly_blankPayload : BlanksIdentifierOnly blankPayload :=
  ⟨fun _ s => by cases s <;> rfl, fun _ _ _ => rfl⟩

/-- Standard frames with one function code, one node id and one sub-frame drive ports that agree where their identifier ports do. -/
theorem BlanksIdentifierOnly.portsOf_decodeRaw_eq {blank : OutPorts → OutPorts} (hblank : BlanksIdentifierOnly blank) (v : Bool)
    (b : Build) {raw raw' : RawFrame} (hstd : isExtended raw.identifier = false) (hstd' : isExtended raw'.identifier = false)
    (hident : blank (identifierPorts v raw) = blank (identifierPorts v raw'))
    (hfc : fcRaw raw.identifier = fcRaw raw'.identifier)
    (hnode : canopenNodeId raw.identifier = canopenNodeId raw'.identifier)
    (hsub : subFrameOf b (resolve b.fcMap (fcRaw raw.identifier)) raw.payload =
      subFrameOf b (resolve b.fcMap (fcRaw raw.identifier)) raw'.payload) :
    blank (portsOf v (decodeRaw b raw)) = blank (portsOf v (decodeRaw b raw')) := by
  rw [portsOf_decodeRaw_standard v b hstd, portsOf_decodeRaw_standard v b hstd', ← hfc, ← hnode, ← hsub]
  cases subFrameOf b (resolve b.fcMap (fcRaw raw.identifier)) raw.payload with
  | error e => rfl
  | ok sub =>
    simp only [OutPorts.putSubResult, hblank.putSub, hblank.putFunction, hident]

/-! ### The identifier under the mask that leaves out bits 28 to 11 -/

section
variable {id id' : Ident} (h : id &&& 0xE00007FF = id' &&& 0xE00007FF)
include h

/-- Bits 28 to 11 are not among the flags (R121 to R124). -/
theorem flags_eq_of_agreeOffHigh :
    isExtended id = isExtended id' ∧ isRemoteRequest id = isRemoteRequest id' ∧ isErrorFrame id = isErrorFrame id' := by
  simp only [isExtended_eq_getLsbD, isRemoteRequest_eq_getLsbD, isErrorFrame_eq_getLsbD]
  exact ⟨by simpa using congrArg (BitVec.getLsbD · 31) h, by simpa using congrArg (BitVec.getLsbD · 30) h,
    by simpa using congrArg (BitVec.getLsbD · 29) h⟩

/-- Bits 28 to 11 are not in the standard address, the function code or the node id (R126, R140, R144). -/
theorem lowFields_eq_of_agreeOffHigh :
    stdAddress id = stdAddress id' ∧ fcRaw id = fcRaw id' ∧ canopenNodeId id = canopenNodeId id' := by
  simp only [stdAddress_eq_extractLsb', fcRaw_eq_extractLsb', canopenNodeId_eq_extractLsb']
  exact ⟨extractLsb'_eq_of_and_eq h (by decide), extractLsb'_eq_of_and_eq h (by decide),
    extractLsb'_eq_of_and_eq h (by decide)⟩

/-- The identifier ports of a standard frame but `id`, `ext_addr` and `err_bits` see nothing of bits 28 to 11. -/
theorem blankHigh_identifierPorts_withIdentifier (v : Bool) {raw : RawFrame} (hid : raw.identifier = id)
    (hstd : isExtended id = false) :
    blankHigh (identifierPorts v raw) = blankHigh (identifierPorts v (raw.withIdentifier id')) := by
  subst hid
  obtain ⟨hext, hrtr, herr⟩ := flags_eq_of_agreeOffHigh h
  obtain ⟨haddr, -⟩ := lowFields_eq_of_agreeOffHigh h
  have hext' := hext.symm.trans hstd
  simp [blankHigh, identifierPorts, RawFrame.withIdentifier, OutPorts.ofRaw, isStandard, nodeAddress, hstd, hext', hrtr, herr,
    haddr]

end

/-- Settles O18: both buffers fail in PARSE, or parse to frames that differ in the identifier alone. -/
theorem highStandardBitsAreIgnored : Obligations.HighStandardBitsAreIgnored := by
  intro b v x y hxy hstd hid
  have hparse := parseFrame_of_agreeOff_identifier hxy
  cases hx : parseFrame x with
  | error e => simp [decodeBuffer, hparse, hx, Except.map]
  | ok raw =>
    obtain ⟨hident, -⟩ := parseFrame_reads hx
    have hrawid : raw.identifier = identOf x := hident
    rw [hx] at hparse
    rw [decodeBuffer_of_parse hx, decodeBuffer_of_parse hparse]
    rw [← hrawid] at hstd hid
    have hext : isExtended raw.identifier = false := by simpa [isStandard] using hstd
    obtain ⟨hclass, -⟩ := flags_eq_of_agreeOffHigh hid
    obtain ⟨-, hfc, hnode⟩ := lowFields_eq_of_agreeOffHigh hid
    exact blanksIdentifierOnly_blankHigh.portsOf_decodeRaw_eq v b hext (hclass.symm.trans hext)
      (blankHigh_identifierPorts_withIdentifier hid v rfl hext) hfc hnode rfl

/-! ### Frames with another payload -/

/-- The identifier ports but `payload` are those of the identifier and the declared length. -/
theorem blankPayload_identifierPorts_eq (v : Bool) {raw raw' : RawFrame} (hid : raw.identifier = raw'.identifier)
    (hdlc : raw.declaredLength = raw'.declaredLength) :
    blankPayload (identifierPorts v raw) = blankPayload (identifierPorts v raw') := by
  simp [blankPayload, identifierPorts, OutPorts.ofRaw, hid, hdlc]

/-- Buffers that agree off some payload offsets parse to one identifier and one declared length, and to one payload byte at every
other offset (R61, R114). -/
theorem parse_of_agreeOff_payload {ks : List Nat} {x y : List Byte} (h : AgreeOff ks x y) (hks : ∀ k ∈ ks, 8 ≤ k)
    (hlen : x.length = 16) :
    ∃ raw raw', parseFrame x = .ok raw ∧ parseFrame y = .ok raw' ∧ raw.identifier = raw'.identifier ∧
      raw.declaredLength = raw'.declaredLength ∧ FirstPayloadByte x raw.payload.p0 ∧ FirstPayloadByte y raw'.payload.p0 ∧
      ∀ k < 8, 8 + k ∉ ks → raw.payload.bytes[k]? = raw'.payload.bytes[k]? := by
  have hread (a n : Nat) (ha : a + n ≤ 8) : memRead x a n = memRead y a n :=
    congrArg (leAssemble (8 * n)) (window_eq_of_agreeOff h fun i hi hmem => by have := hks _ hmem; omega)
  obtain ⟨hlength, hbytes⟩ := h
  obtain ⟨-, hcut⟩ := parseCutsEveryField x
  obtain ⟨-, hcut'⟩ := parseCutsEveryField y
  obtain ⟨raw, hparse, -, -, hpayload⟩ := hcut hlen
  obtain ⟨raw', hparse', -, -, hpayload'⟩ := hcut' (hlength ▸ hlen)
  obtain ⟨hid, hdlc, -⟩ := parseFrame_reads hparse
  obtain ⟨hid', hdlc', -⟩ := parseFrame_reads hparse'
  refine ⟨raw, raw', hparse, hparse', ?_, ?_, hpayload 0 (by decide), hpayload' 0 (by decide), fun k hk hoff => ?_⟩
  · rw [hid, hid', hread 0 4 (by decide)]
  · rw [hdlc, hdlc', hread 4 1 (by decide)]
  · rw [← hpayload k hk, ← hpayload' k hk, hbytes _ hoff]

/-- Two standard buffers that agree off some payload offsets show the same ports but `payload`, if any two payloads that stand in
them have one sub-frame. -/
theorem blankPayload_portsOf_eq (b : Build) (v : Bool) {ks : List Nat} {x y : List Byte} (h : AgreeOff ks x y)
    (hks : ∀ k ∈ ks, 8 ≤ k) (hstd : isStandard (identOf x) = true)
    (hsub : ∀ p p' : Payload, FirstPayloadByte x p.p0 → FirstPayloadByte y p'.p0 →
      (∀ k < 8, 8 + k ∉ ks → p.bytes[k]? = p'.bytes[k]?) →
      subFrameOf b (roleOf b x) p = subFrameOf b (roleOf b x) p') :
    blankPayload (portsOf v (decodeBuffer b x)) = blankPayload (portsOf v (decodeBuffer b y)) := by
  by_cases hlen : x.length = 16
  · obtain ⟨raw, raw', hparse, hparse', hid, hdlc, hfirst, hfirst', hbytes⟩ := parse_of_agreeOff_payload h hks hlen
    have hident : raw.identifier = identOf x := (parseFrame_reads hparse).1
    have hext : isExtended raw.identifier = false := by simpa [isStandard, hident] using hstd
    rw [roleOf, ← hident, ← fcRaw_eq_extractLsb'] at hsub
    rw [decodeBuffer_of_parse hparse, decodeBuffer_of_parse hparse']
    exact blanksIdentifierOnly_blankPayload.portsOf_decodeRaw_eq v b hext (hid ▸ hext)
      (blankPayload_identifierPorts_eq v hid hdlc) (by rw [hid]) (by rw [hid]) (hsub _ _ hfirst hfirst' hbytes)
  · have ⟨hlength, _⟩ := h
    rw [decodeBuffer_of_length hlen, decodeBuffer_of_length (hlength ▸ hlen)]

/-! ### The payload bits that NMT_DECODE and SDO_DECODE read -/

/-- NMT_DECODE reads payload bytes 0 and 1 alone (R161, R163). -/
theorem nmtDecode_congr {p p' : Payload} (h0 : p.p0 = p'.p0) (h1 : p.p1 = p'.p1) : nmtDecode p = nmtDecode p' := by
  rw [nmtDecode, nmtDecode, h0, h1]

/-- SDO_DECODE reads byte 0 into the command specifier, the flags and the count (R170, R174, R175, R183). -/
theorem sdoDecode_congr {b : Build} {dir : Direction} {p p' : Payload} (hrest : p.bytes.tail = p'.bytes.tail)
    (hcs : sdoCs p.p0 = sdoCs p'.p0)
    (hfields : ∀ tag, sdoTagOf dir (sdoCs p.p0) = some tag →
      sdoFlags tag p.p0 = sdoFlags tag p'.p0 ∧ sdoCount tag p.p0 = sdoCount tag p'.p0) :
    sdoDecode b dir p = sdoDecode b dir p' := by
  obtain ⟨p0, p1, p2, p3, p4, p5, p6, p7⟩ := p
  obtain ⟨q0, q1, q2, q3, q4, q5, q6, q7⟩ := p'
  obtain ⟨rfl, rfl, rfl, rfl, rfl, rfl, rfl⟩ :
      p1 = q1 ∧ p2 = q2 ∧ p3 = q3 ∧ p4 = q4 ∧ p5 = q5 ∧ p6 = q6 ∧ p7 = q7 := by simpa [Payload.bytes] using hrest
  simp only [sdoDecode, ← hcs]
  cases htag : sdoTagOf dir (sdoCs p0) with
  | none => rfl
  | some tag =>
    obtain ⟨hflags, hcount⟩ := hfields tag htag
    simp only [hflags, hcount, sdoData]
    rfl

/-- Bit 4 of byte 0 is in no field (R86, R93). -/
theorem sdoFields_eq_of_agreeOffBit4 {a c : Byte} (h : a &&& 0xEF = c &&& 0xEF) :
    sdoCs a = sdoCs c ∧ ∀ tag, sdoFlags tag a = sdoFlags tag c ∧ sdoCount tag a = sdoCount tag c := by
  have hcs (z : Byte) : sdoCs z = z &&& 0xEF &&& 0xE0 := (BitVec.and_assoc z 0xEF 0xE0).symm
  have h1 : a.getLsbD 1 = c.getLsbD 1 := by simpa using congrArg (BitVec.getLsbD · 1) h
  have h0 : a.getLsbD 0 = c.getLsbD 0 := by simpa using congrArg (BitVec.getLsbD · 0) h
  have hn : sdoN a = sdoN c := extractLsb'_eq_of_and_eq h (by decide)
  exact ⟨by rw [hcs, hcs, h], fun tag => by rw [sdoFlags, sdoFlags, sdoCount, sdoCount, h1, h0, hn]; exact ⟨rfl, rfl⟩⟩

/-- A tag that is no initiate has neither flags nor a count (R174, R175). -/
theorem sdoFields_of_not_isInitiate {tag : SdoTag} (h : tag.isInitiate = false) (b0 : Byte) :
    sdoFlags tag b0 = (false, false) ∧ sdoCount tag b0 = 0 := by
  simp [sdoFlags, sdoCount, h]

/-- The initiate command specifiers of a direction (R171). -/
def initiateSpecifiers : Direction → List Byte
  | .rx => [0x20, 0x40]
  | .tx => [0x60, 0x40]

/-- Another command specifier has no initiate tag. -/
theorem isInitiate_eq_false_of_not_mem {dir : Direction} {cs : Byte} {tag : SdoTag} (htag : sdoTagOf dir cs = some tag)
    (h : cs ∉ initiateSpecifiers dir) : tag.isInitiate = false := by
  have htable : ∀ e ∈ sdoTable dir, e.1 ∉ initiateSpecifiers dir → e.2.isInitiate = false := by cases dir <;> decide
  exact htable (cs, tag) (tableFind_mem htag) h

/-- SDO_DECODE sees no difference in bit 4 of byte 0, nor in its low bits when it is no initiate. -/
theorem sdoDecode_eq_of_unread_bits {b : Build} {dir : Direction} {p p' : Payload} (hrest : p.bytes.tail = p'.bytes.tail)
    (hbits : p.p0 &&& 0xEF = p'.p0 &&& 0xEF ∨ (sdoCs p.p0 = sdoCs p'.p0 ∧ sdoCs p.p0 ∉ initiateSpecifiers dir)) :
    sdoDecode b dir p = sdoDecode b dir p' := by
  obtain hbit4 | ⟨hcs, hplain⟩ := hbits
  · obtain ⟨hcs, hfields⟩ := sdoFields_eq_of_agreeOffBit4 hbit4
    exact sdoDecode_congr hrest hcs fun tag _ => hfields tag
  · refine sdoDecode_congr hrest hcs fun tag htag => ?_
    have hinit := isInitiate_eq_false_of_not_mem htag hplain
    obtain ⟨hflags, hcount⟩ := sdoFields_of_not_isInitiate hinit p.p0
    obtain ⟨hflags', hcount'⟩ := sdoFields_of_not_isInitiate hinit p'.p0
    exact ⟨hflags.trans hflags'.symm, hcount.trans hcount'.symm⟩

/-- The role whose payload is read in a direction (R173). -/
def sdoRole : Direction → FunctionCode
  | .rx => .sdoRx
  | .tx => .sdoTx

/-- The sub-frame of an SDO role is what SDO_DECODE answers in its direction (R203). -/
theorem subFrameOf_sdoRole (b : Build) (dir : Direction) (p : Payload) :
    subFrameOf b (sdoRole dir) p = (sdoDecode b dir p).map (sdoSub dir) := by
  cases dir <;> rfl

/-- Payloads that agree at every offset but the first. -/
theorem tail_bytes_eq {p p' : Payload} (h : ∀ k < 8, 8 + k ∉ [8] → p.bytes[k]? = p'.bytes[k]?) :
    p.bytes.tail = p'.bytes.tail := by
  apply List.ext_getElem?
  intro k
  rw [List.getElem?_tail, List.getElem?_tail]
  by_cases hk : k < 7
  · exact h (k + 1) (by omega) (by simp)
  · simp [Payload.bytes, show 7 ≤ k by omega]

/-- Settles O19: in each case the sub-frames of the two payloads are the same, since their decoder reads none of those bits. -/
theorem unreadPayloadBitsAreIgnored : Obligations.UnreadPayloadBitsAreIgnored := by
  intro b v x y hstd
  refine ⟨fun hrole hxy => ?_, fun a c ha hc hxy hrole hbits => ?_⟩
  · refine blankPayload_portsOf_eq b v hxy (by decide) hstd fun p p' _ _ hbytes => ?_
    rw [hrole]
    exact nmtDecode_congr (Option.some.inj (hbytes 0 (by decide) (by decide)))
      (Option.some.inj (hbytes 1 (by decide) (by decide)))
  · obtain ⟨dir, hdir, hread⟩ : ∃ dir, roleOf b x = sdoRole dir ∧
        (a &&& 0xEF = c &&& 0xEF ∨ (sdoCs a = sdoCs c ∧ sdoCs a ∉ initiateSpecifiers dir)) := by
      obtain hrx | htx := hrole
      · exact ⟨.rx, hrx, hbits.imp_right fun ⟨hcs, hplain, _⟩ => ⟨hcs, hplain hrx⟩⟩
      · exact ⟨.tx, htx, hbits.imp_right fun ⟨hcs, _, hplain⟩ => ⟨hcs, hplain htx⟩⟩
    refine blankPayload_portsOf_eq b v hxy (by decide) hstd fun p p' hp hp' hbytes => ?_
    obtain rfl : a = p.p0 := Option.some.inj (ha.symm.trans hp)
    obtain rfl : c = p'.p0 := Option.some.inj (hc.symm.trans hp')
    rw [hdir, subFrameOf_sdoRole, subFrameOf_sdoRole, sdoDecode_eq_of_unread_bits (tail_bytes_eq hbytes) hread]

end Sys2Proof
end

section
/-! One step and a run of steps (R30, R43, R70, R263): what a step shows of its presentation, held or not, what it keeps of a
legal build, and the statements about them. -/

namespace Sys2Proof.Machine

open Sys2Proof.Claims

/-! ### The presented buffer -/

/-- The lanes of a whole presented frame are its bytes (R44). -/
theorem lanes_of_presents {p : InPorts} {buf : List Byte} (h : p.Presents buf) (hlen : buf.length = 16) :
    lanes p.inData = buf := by
  obtain ⟨-, hlanes⟩ := h
  apply List.ext_getElem (by simp [lanes, hlen])
  intro k _ hk
  simpa [lanes] using hlanes k buf[k] (hlen ▸ hk) (List.getElem?_eq_getElem hk)

/-- Input ports decode to the decode of the buffer they present (R44). -/
theorem decoded_of_presents {p : InPorts} {buf : List Byte} (b : Build) (h : p.Presents buf) :
    p.decoded b = decodeBuffer b buf := by
  have ⟨hinLen, _⟩ := h
  rw [InPorts.decoded, hinLen]
  by_cases hlen : buf.length = 16
  · rw [if_pos hlen, lanes_of_presents h hlen]
  · rw [if_neg hlen, decodeBuffer_of_length hlen]

/-- Settles O58: each presentation decodes to the decode of the buffer, which names no lane. -/
theorem dontCareLanesReachNothing : Obligations.DontCareLanesReachNothing := by
  intro b p q buf hp hq
  exact ⟨(decoded_of_presents b hp).trans (decoded_of_presents b hq).symm, decoded_of_presents b hp⟩

/-! ### One step -/

/-- A step sampled too soon shows the free value of that sample (R263). -/
theorem step_of_ready_early {s : State} (h : (ready s).dataHeld = false) :
    step s = .next (sampleEarly s.freeSeq (ready s)) := by
  simp only [step, sampleStep, h, Bool.false_eq_true, if_false]

/-- Everything a step can do: it answers the ready state with other outputs, and held ones are the function of the inputs (R43,
R263). -/
theorem step_next (s : State) : ∃ o, step s = .next { ready s with out := o } ∧
    ((ready s).dataHeld = true → o = portsOf (ready s).inp.inValid ((ready s).inp.decoded (ready s).build)) := by
  cases hheld : (ready s).dataHeld with
  | true => exact ⟨_, step_of_ready_dataHeld hheld, fun _ => rfl⟩
  | false => exact ⟨_, step_of_ready_early hheld, fun h => absurd h (by decide)⟩

/-- The query outputs that stand ready for the rows are the function of the inputs, when `cv_tag` is held (R48). -/
theorem ready_cv_eq_queryPorts {s : State} (h : (ready s).cvHeld = true) :
    (ready s).cv = queryPorts (ready s).build.fcMap (ready s).inp.cvTag := by
  have hheld : (present s).cvHeld = true := h
  simp [ready, driveQuery, hheld]

/-- Settles O52: a step changes outputs only after the inputs are presented, and presenting keeps the tables. -/
theorem everyStepAnswersNextAndKeepsTheTables : Obligations.EveryStepAnswersNextAndKeepsTheTables := by
  intro s
  obtain ⟨o, hstep, -⟩ := step_next s
  exact ⟨_, hstep, ready_build s⟩

/-- Settles O50: what stands ready is `ready_cons`, and the rows run by `exec` one after the other. -/
theorem stepRunsTheDecodedRows : Obligations.StepRunsTheDecodedRows := by
  refine ⟨fun s p rest hp hheld => ?_, fun s t i rows hheld hrows hexec => ?_, fun s t i rows => run_cons, fun s => rfl⟩
  · obtain ⟨hdata, hcv⟩ := hheld
    simp [ready_cons hp, hdata, hcv]
  · rw [step, sampleStep, if_pos hheld, hrows, run_cons hexec]

/-! ### What a step shows of its presentation -/

section
variable {s : State} {p : Sample} {rest : List Sample} (hp : s.pending = p :: rest)
include hp

/-- A step with held decode inputs shows the decode of the presentation, which it takes from the list (R43, R70). -/
theorem step_of_presentation_dataHeld (hdata : p.dataHeld = true) : ∃ t, step s = .next t ∧
    t.out = portsOf p.ports.inValid (p.ports.decoded s.build) ∧ t.inp = p.ports ∧ t.pending = rest ∧ t.build = s.build ∧
    t.cv = (ready s).cv ∧ t.freeSeq = (ready s).freeSeq := by
  have hready : (ready s).dataHeld = true := by simpa [present_cons s hp] using hdata
  refine ⟨_, step_of_ready_dataHeld hready, ?_⟩
  simp [present_cons s hp]

/-- A step with all inputs held shows the result of the presentation (R43, R48). -/
theorem step_of_presentation_held (hheld : Held p) :
    ∃ t, step s = .next t ∧ ShowsResult s.build p t ∧ t.pending = rest ∧ t.build = s.build := by
  obtain ⟨hdata, hcv⟩ := hheld
  obtain ⟨t, hstep, hout, -, hpending, hbuild, htcv, -⟩ := step_of_presentation_dataHeld hp hdata
  exact ⟨t, hstep, ⟨hout, htcv.trans (ready_cv_of_cvHeld hp hcv)⟩, hpending, hbuild⟩

end

/-- Settles O51: a step decodes the presented inputs, and these decode to the decode of the buffer. -/
theorem stepDrivesTheProjectionOfDecode : Obligations.StepDrivesTheProjectionOfDecode := by
  intro s p rest buf hp hdata hbuf
  obtain ⟨t, hstep, hout, hinp, hpending, hbuild, -, hseq⟩ := step_of_presentation_dataHeld hp hdata
  rw [decoded_of_presents s.build hbuf] at hout
  refine ⟨t, hstep, hout, hinp, hpending, hbuild, fun hcv => ?_⟩
  simp [hseq, ready_cons hp, hdata, hcv]

/-- Settles O59: the free value of the sample stands on the decode outputs, and the query was answered before. -/
theorem earlySampleShowsAFreeValue : Obligations.EarlySampleShowsAFreeValue := by
  intro s p rest hp hdata
  have hready : (ready s).dataHeld = false := by simpa [present_cons s hp] using hdata
  refine ⟨_, step_of_ready_early hready, rfl, ?_, ready_build s, ?_, ready_cv_of_cvHeld hp⟩
  · simp [ready_cons hp, hdata]
  · simp [present_cons s hp]

/-- Settles O60: what stands ready is `ready_nil`, which is held. -/
theorem heldInputsKeepTheirOutputs : Obligations.HeldInputsKeepTheirOutputs := by
  intro s hp
  have hready := ready_nil hp
  refine ⟨_, step_of_ready_dataHeld (by rw [hready]), ?_⟩
  simp [hready, hp]

/-- Steps after a first one. -/
theorem afterSteps_succ {s t : State} (h : step s = .next t) (k : Nat) : afterSteps (k + 1) s = afterSteps k t := by
  rw [afterSteps, h]

/-- Settles O56: by induction on the list, of which each step takes the first presentation and shows its result. -/
theorem resultsFollowThePresentations : Obligations.ResultsFollowThePresentations := by
  intro s k p hheld hk
  induction hs : s.pending generalizing s k with
  | nil => simp [hs] at hk
  | cons q rest ih =>
    rw [hs] at hheld hk
    obtain ⟨hq, hrest⟩ := List.forall_mem_cons.1 hheld
    obtain ⟨t, hstep, hshows, hpending, hbuild⟩ := step_of_presentation_held hs hq
    rw [afterSteps_succ hstep]
    cases k with
    | zero =>
      obtain rfl : q = p := Option.some.inj hk
      exact ⟨t, rfl, hshows, hpending, hbuild⟩
    | succ k =>
      rw [← hpending] at hrest
      obtain ⟨t', hafter, hshows', hpending', hbuild'⟩ := ih t k hrest (by rw [hpending]; exact hk) hpending
      rw [hbuild] at hshows' hbuild'
      exact ⟨t', hafter, hshows', hpending', hbuild'⟩

/-! ### The invariant -/

/-- The inputs that stand ready are those before, or a presentation from the list; the list only gets shorter. -/
theorem ready_fits {s : State} {b : Build} (hinp : s.inp.fits b) (hpending : ∀ p ∈ s.pending, p.ports.fits b) :
    (ready s).inp.fits b ∧ ∀ p ∈ (ready s).pending, p.ports.fits b := by
  cases hp : s.pending with
  | nil =>
    simp only [ready_nil hp]
    exact ⟨hinp, hpending⟩
  | cons p rest =>
    rw [hp, List.forall_mem_cons] at hpending
    simp only [ready_cons hp]
    exact hpending

/-- Settles O53: a step keeps the tables, takes its inputs from those of which the lengths fit, and shows held outputs as the
function of the inputs. -/
theorem stepKeepsTheInvariant : Obligations.StepKeepsTheInvariant := by
  rintro s t ⟨hbuild, hinp, hpending, -⟩ hstep
  obtain ⟨o, hnext, hout⟩ := step_next s
  rw [hnext] at hstep
  cases hstep
  obtain ⟨hinp', hpending'⟩ := ready_fits hinp hpending
  rw [← ready_build s] at hbuild hinp' hpending'
  exact ⟨hbuild, hinp', hpending', hout, ready_cv_eq_queryPorts⟩

/-- Settles O54: the default tables are legal, and the reset outputs are the decode of the reset inputs. -/
theorem resetMeetsTheInvariant : Obligations.ResetMeetsTheInvariant :=
  ⟨by decide, by decide, by decide, fun _ => rfl, fun _ => rfl⟩

end Sys2Proof.Machine
end
